-- ==== Sys2Proof/Word.lean ====
section
/-! DEFINITION. The word types of the PSFB (00_scope.md rule R12): bytes of the two memories, 16-bit samples, gains and
window entries, 32-bit registers and transform values. -/

namespace Sys2Proof

/-- One byte of the workspace or of external memory. -/
abbrev Byte := BitVec 8

/-- A 16-bit sample, gain, window-table entry or workspace offset (rule R12). -/
abbrev Half := BitVec 16

/-- A 32-bit host register, transform value or accumulator (rule R12). -/
abbrev Word := BitVec 32

end Sys2Proof
end

