-- ==== Sys2Proof/Config.lean ====
section
/-! DEFINITION. The configuration of 00_scope.md rule R11: what is fixed for the life of one PSFB. The state carries it
(field `cfg`), so that every meaning takes it as an argument and a statement about every state is about every
configuration (log entry 1). The constants without a body are the values the spec leaves open: nothing can compute them. -/

namespace Sys2Proof

/-- `MULSH_MODE`: the product width of mulShift16 (40_primitives.md rule R78). -/
inductive MulshMode where
  | exact   -- floor of the exact product, then wrapped to 32 bits
  | wrap32  -- the product wrapped to 32 bits, then floored
deriving DecidableEq, Repr

/-- `XSEL_ODD`: the crossover accumulator an odd phase selects (44_window.md rule R115). -/
inductive TapSel where
  | evenTaps
  | oddTaps
deriving DecidableEq, Repr

/-- `GSEL_ODD`: the gain an odd phase selects for the 16-sample range (45_gain.md rule R122). -/
inductive GainSel where
  | g0
  | g1
deriving DecidableEq, Repr

/-- The parameters of rule R11. The widths of the table entries are those of 10_state.md rules R37 to R41 (log entry 21). -/
structure Config where
  /-- `ODD_W[0..15]` (rule R37): non-negative 32-bit multipliers. -/
  oddW : Vector (BitVec 31) 16
  /-- `W8[0..7]` (rule R38). -/
  w8 : Vector Half 8
  /-- `W4[0..3]` (rule R38). -/
  w4 : Vector Half 4
  /-- `W2[0..1]` (rule R38). -/
  w2 : Vector Half 2
  /-- `SCALE[0..3]` (rule R39): non-negative integers below 2^31. -/
  scale : Vector (BitVec 31) 4
  /-- `SCALE_SEL[0..7]` (rule R39): each in [0,4). -/
  scaleSel : Vector (Fin 4) 8
  /-- `PAIR_LO[0..15]` (rule R40): each in [0,32). -/
  pairLo : Vector (Fin 32) 16
  /-- `PAIR_HI[0..15]` (rule R40): each in [0,32). -/
  pairHi : Vector (Fin 32) 16
  /-- `DEWIN[0..1055]` (rule R41): signed 16-bit entries. -/
  dewin : Vector Half 1056
  /-- `HDR_OFF` (20_memory.md rule R59). -/
  hdrOff : Half
  /-- `IN_OFF` (rule R59). -/
  inOff : Half
  /-- `OUT_OFF` (rule R59). -/
  outOff : Half
  /-- `SLOT_A` (rule R59). -/
  slotA : Half
  /-- `SLOT_B` (rule R59). -/
  slotB : Half
  /-- `EXT_SIZE` (20_memory.md rule R48): at most 2^32. -/
  extSize : Fin 4294967297
  /-- `HOST_BASE` (30_encoding.md rule R74), which gives it no width: 32 bits are the model's choice (DESIGN CHOICE, log
  entry 26). -/
  hostBase : Word
  /-- `MULSH_MODE` (rule R78). -/
  mulshMode : MulshMode
  /-- `ROTATE_FIRST` (46_frame_driver.md rule R131). -/
  rotateFirst : Bool
  /-- `XSEL_ODD` (rule R115). -/
  xselOdd : TapSel
  /-- `GSEL_ODD` (rule R122). -/
  gselOdd : GainSel
deriving DecidableEq, Repr

/-- `DEWIN` is OPEN (rule R41): entry i of the window table State.reset carries. Log entry 2. -/
opaque Config.openDewin : Nat → Half

/-- `EXT_SIZE` is OPEN (rule R48): the size State.reset carries. Log entry 2. -/
opaque Config.openExtSize : Fin 4294967297

/-- `HOST_BASE` is OPEN (rule R74): the base State.reset carries. Log entry 2; its width of 32 bits is log entry 26. -/
opaque Config.openHostBase : Word

/-- Free value: workspace byte a as the e-th reset leaves it (10_state.md rule R45, 70_reset_and_hazards.md rule R155:
"unspecified (any value; a model draws them)"). Log entry 4. -/
opaque Config.freeWs : (e a : Nat) → Byte

/-- Free value: `V[i]` as the e-th reset leaves it (rule R45). Log entry 5. -/
opaque Config.freeV : (e i : Nat) → Word

/-- Free value: the frame driver's cursors as the e-th reset leaves them (rule R45): 0 in_cur, 1 out_cur, 2 ext_rd,
3 ext_wr. Log entry 5. -/
opaque Config.freeCursor : (e i : Nat) → Word

/-- Free value: an external byte the host has not been seen to write (10_state.md rule R20: external memory is the
host's). Log entry 6. -/
opaque Config.freeExt : (a : Nat) → Byte

/-- Free value: the n-th bus response the platform decides (93_implementation_defined.md part 1, rule R74). Log entry 9. -/
opaque Config.freeBus : (n : Nat) → Word

/-- The default configuration of rule R11: the defaults of rules R37 to R40, R59, R78, R115, R122 and R131, several of
them marked general knowledge by the spec (log entry 3), and the OPEN parameters left open (log entry 2). -/
def Config.defaults : Config where
  oddW := #v[0xFFB2, 0xFD3A, 0xF10A, 0xF854, 0xBDAE, 0xCDA0, 0xE76C, 0xDB94,
             0x1920, 0x4B20, 0xAC7C, 0x7C68, 0xABEC, 0x9880, 0xDAE8, 0x839C]
  w8 := #v[0xFEC4, 0xF4FA, 0xC5E4, 0xE1C4, 0x1916, 0x4A50, 0xA268, 0x78AE]
  w4 := #v[0xFB14, 0xD4DC, 0x31F2, 0x8E3A]
  w2 := #v[0xEC84, 0x61F8]
  scale := #v[0xB504, 0x16A09, 0x2D413, 0x5A827]
  scaleSel := #v[0, 1, 1, 2, 1, 2, 2, 3]
  pairLo := #v[0, 1, 3, 2, 7, 6, 4, 5, 15, 14, 12, 13, 8, 9, 11, 10]
  pairHi := #v[31, 30, 28, 29, 24, 25, 27, 26, 16, 17, 19, 18, 23, 22, 20, 21]
  dewin := ⟨((List.range 1056).map Config.openDewin).toArray, by simp⟩
  hdrOff := 0xCE8
  inOff := 0xCF0
  outOff := 0xE70
  slotA := 0x8A0
  slotB := 0xAC0
  extSize := Config.openExtSize
  hostBase := Config.openHostBase
  mulshMode := .exact
  rotateFirst := true
  xselOdd := .evenTaps
  gselOdd := .g1

end Sys2Proof
end

