-- ==== Sys2Proof/Syntax.lean ====
section
/-! DEFINITION. The commands of the PSFB (30_encoding.md rule R71, opcode_table.json), why a command word is illegal
(rule R67), and the registers of the host window (10_state.md section 2). -/

namespace Sys2Proof

/-- The 14 commands of rule R71. No command has a field: its operands are in `A0`..`A3`, in `V` and in the state
(rules R66, R69). -/
inductive Instr where
  | sat16   -- 0x01 (rule R81)
  | mulsh   -- 0x02 (rule R82)
  | rdot    -- 0x03 (rule R83)
  | gmul    -- 0x04 (rule R84)
  | bload   -- 0x10 (rule R88)
  | bstore  -- 0x11 (rule R89)
  | srd     -- 0x12 (rule R90)
  | swr     -- 0x13 (rule R91)
  | bfly    -- 0x20 (rule R99)
  | synth   -- 0x21 (rule R111)
  | window  -- 0x22 (rule R119)
  | gain    -- 0x23 (rule R123)
  | group   -- 0x30 (rule R134)
  | decode  -- 0x31 (rule R125)
deriving DecidableEq, Repr

/-- Why a word is no command (rule R67): its reserved bits are not all 0, or its `op` is in no row of rule R71. -/
inductive DecodeError where
  | reservedBits
  | unassignedOp
deriving DecidableEq, Repr

/-- The registers of the host window (10_state.md section 2). -/
inductive HostReg where
  | cmd
  | status
  | faultCause
  | faultInfo
  | a0
  | a1
  | a2
  | a3
  | res
  | phase
  | slotNew
  | slotPrev
  | g0
  | g1
  | v (i : Fin 16)
deriving DecidableEq, Repr

end Sys2Proof
end

