-- ==== Sys2Proof/WellFormed.lean ====
section
/-! DEFINITION. What is well formed: a command (every one is: it has no field, rule R66), a command word's reserved bits
(rule R67), and a configuration (20_memory.md rule R60 for the layout, 10_state.md rule R40 for the pairing table). A
configuration that is not is refused, not run (rule R60; log entry 12). -/

namespace Sys2Proof

/-- Every command is well formed: its word has an opcode and reserved zeros, and nothing else (rule R66). -/
def Instr.wellFormed : Instr → Bool
  | .sat16 | .mulsh | .rdot | .gmul | .bload | .bstore | .srd | .swr
  | .bfly | .synth | .window | .gain | .group | .decode => true

/-- Rule R67: `rsv`, bits 23:0 of a command word, must be 0. -/
def reservedClear (w : Word) : Bool := w.extractLsb' 0 24 == 0#24

/-- The five regions of 20_memory.md rule R59 as (first byte, length). -/
def Config.regions (c : Config) : List (Nat × Nat) :=
  [(c.slotA.toNat, 0x220), (c.slotB.toNat, 0x220), (c.hdrOff.toNat, 8),
   (c.inOff.toNat, 0x180), (c.outOff.toNat, 0x182)]

/-- Rule R60: `SLOT_A` and `SLOT_B` are multiples of 0x20. -/
def Config.slotsAligned (c : Config) : Bool :=
  c.slotA.toNat % 0x20 == 0 && c.slotB.toNat % 0x20 == 0

/-- Rule R60: each region lies within [0, 4096). -/
def Config.regionsInside (c : Config) : Bool :=
  c.regions.all fun r => r.1 + r.2 ≤ 4096

/-- Two regions share no byte. -/
def Config.apart (r q : Nat × Nat) : Bool := r.1 + r.2 ≤ q.1 || q.1 + q.2 ≤ r.1

/-- Every region of the list is apart from every later one. -/
def Config.pairwiseApart : List (Nat × Nat) → Bool
  | [] => true
  | r :: rest => rest.all (Config.apart r) && Config.pairwiseApart rest

/-- Rule R60: no two regions overlap. -/
def Config.regionsApart (c : Config) : Bool := Config.pairwiseApart c.regions

/-- 10_state.md rule R40: the 32 indices of the 16 pairs are 0..31, each exactly once. -/
def Config.pairMatching (c : Config) : Bool :=
  (List.finRange 32).all fun k => (c.pairLo.toList ++ c.pairHi.toList).count k == 1

/-- A configuration the model runs. -/
def Config.wellFormed (c : Config) : Bool :=
  c.slotsAligned && c.regionsInside && c.regionsApart && c.pairMatching

/-- The header, the input block and the output block start at even offsets. Rule R60 does not ask for it; without it the
samples of a DECODE are misaligned (20_memory.md rule R54) and it faults (log entry 12). -/
def Config.layoutEven (c : Config) : Bool :=
  c.hdrOff.toNat % 2 == 0 && c.inOff.toNat % 2 == 0 && c.outOff.toNat % 2 == 0

end Sys2Proof
end

