-- ==== Sys2Proof/Decode.lean ====
section
/-! DEFINITION. The decoder of command words and the encoder (30_encoding.md rules R66, R67, R71, R72, R73), and the
numbering of opcode_table.json the host uses. Decoding is total on all 2^32 words (rule R73). -/

namespace Sys2Proof

/-- The opcode map of rule R71, in its order. -/
def opcodeMap : List (BitVec 8 × Instr) :=
  [(0x01, .sat16), (0x02, .mulsh), (0x03, .rdot), (0x04, .gmul),
   (0x10, .bload), (0x11, .bstore), (0x12, .srd), (0x13, .swr),
   (0x20, .bfly), (0x21, .synth), (0x22, .window), (0x23, .gain),
   (0x30, .group), (0x31, .decode)]

/-- `op`, bits 31:24 of a command word (rule R66). -/
def opField (w : Word) : BitVec 8 := w.extractLsb' 24 8

/-- Rules R66, R67: the command a word names, or why it is illegal. -/
def decode (w : Word) : Except DecodeError Instr :=
  if reservedClear w then
    match opcodeMap.find? (fun row => row.1 == opField w) with
    | some row => .ok row.2
    | none => .error .unassignedOp
  else .error .reservedBits

/-- The opcode of a command (rule R71). -/
def opcode : Instr → BitVec 8
  | .sat16 => 0x01
  | .mulsh => 0x02
  | .rdot => 0x03
  | .gmul => 0x04
  | .bload => 0x10
  | .bstore => 0x11
  | .srd => 0x12
  | .swr => 0x13
  | .bfly => 0x20
  | .synth => 0x21
  | .window => 0x22
  | .gain => 0x23
  | .group => 0x30
  | .decode => 0x31

/-- The word of a command: `op << 24` (rules R66, R76). -/
def encode (i : Instr) : Word := opcode i ++ 0#24

/-- The instruction in the word whose low `nbits` bits are `w`, numbered as opcode_table.json numbers them: a command is
one 32-bit word, bit 0 its least significant (rule R66). -/
def decodeTableWord (nbits w : Nat) : Option Instr :=
  match decode (BitVec.ofNat 32 (w % 2 ^ nbits)) with
  | .ok i => some i
  | .error _ => none

end Sys2Proof
end

