-- ==== Sys2Proof/Machine/Arith.lean ====
section
/-! DEFINITION. The fixed-point functions (40_primitives.md section 1). Each computes on integers and narrows at the end
(rule R85); `/` by a positive number is the floor of 00_scope.md rule R14. -/

namespace Sys2Proof.Machine

/-- `saturate16(x)` (rule R77). -/
def saturate16 (x : Word) : Half :=
  if x.toInt > 32767 then 32767#16
  else if x.toInt < -32768 then 0x8000#16
  else x.setWidth 16

/-- `mulShift16(x, y)` (rule R78), by `MULSH_MODE`. -/
def mulShift16 (mode : MulshMode) (x y : Word) : Word :=
  match mode with
  | .exact => BitVec.ofInt 32 (x.toInt * y.toInt / 65536)
  | .wrap32 => BitVec.ofInt 32 ((BitVec.ofInt 32 (x.toInt * y.toInt)).toInt / 65536)

/-- `roundedDot(x, y)` (rule R79): the sum 0x4000 rounds a tie toward plus infinity. -/
def roundedDot (x y : Half) : Word :=
  BitVec.ofInt 32 ((x.toInt * y.toInt + 0x4000) / 32768)

/-- `scaledMultiply(sample, gain)` (rule R80): the exact product fits in 32 bits. -/
def scaledMultiply (sample gain : Half) : Half :=
  saturate16 (BitVec.ofInt 32 (sample.toInt * gain.toInt))

end Sys2Proof.Machine
end

