-- ==== Sys2Proof/Machine/Operands.lean ====
section
/-! DEFINITION. Operand assembly (30_encoding.md rule R70). A 32-bit signed operand is the register's own word, read as two's
complement by the arithmetic that uses it. -/

namespace Sys2Proof.Machine

/-- "unsigned": `zext_32(Ak)`, range-checked by the command's rule, never truncated. -/
def unsigned (r : Word) : Nat := r.toNat

/-- "bits 15:0": `Ak[15:0]`, bits 31:16 ignored (read as signed by the arithmetic that uses it). -/
def low16 (r : Word) : Half := r.setWidth 16

/-- `sext_32` of a 16-bit value: how a sample enters the transform and how a narrow result enters `RES` (rule R23). -/
def sext32 (h : Half) : Word := h.signExtend 32

/-- `zext_32` of a 16-bit value: how a slot register or a layout offset is read as an operand (10_state.md rule R28). -/
def zext32 (h : Half) : Word := h.setWidth 32

/-- The base of a history slot: bits 4:0 cleared, `N & 0xFFE0` (44_window.md rule R113). -/
def slotBase (n : Word) : Nat := (n &&& 0xFFE0#32).toNat

end Sys2Proof.Machine
end

