-- ==== Sys2Proof/Machine/State.lean ====
section
/-! DEFINITION. The state of the PSFB and of what surrounds it (10_state.md rules R20 to R36), the reasons a step can
stop, and the state after reset (rule R45). The state is plain data. -/

namespace Sys2Proof.Machine

/-- A memory: the bytes written so far, by address, addresses strictly rising. An address not listed holds no written
byte: what it reads as is a free value (log entries 4 and 6). -/
abbrev Memory := List Host.Cell

/-- The cause of the first fault since reset (60_exceptions.md rule R142). -/
inductive Cause where
  | none            -- 0x00
  | illegalCommand  -- 0x01
  | misaligned      -- 0x02
  | wsRange         -- 0x03
  | extRange        -- 0x04
  | badPhase        -- 0x05
deriving DecidableEq, Repr

/-- The states of the frame driver (10_state.md rule R31). -/
inductive Fsm where
  | idle
  | headerRead
  | subBlockLoad
  | groupLoop
  | subBlockStore
  | done
deriving DecidableEq, Repr

/-- One access the host or the platform makes between two commands (10_state.md rules R19, R20, R46; 30_encoding.md rule
R74; 70_reset_and_hazards.md rules R152, R160). Window offsets are bytes of the 0x80-byte register window. The spec gives
platform addresses no width: 32 bits are the model's choice (DESIGN CHOICE, log entry 26). -/
inductive HostAccess where
  /-- a 32-bit write at a window offset -/
  | write (off : BitVec 7) (data : Word)
  /-- a 32-bit read at a window offset -/
  | read (off : BitVec 7)
  /-- a 32-bit write at a platform address -/
  | busWrite (addr : Word) (data : Word)
  /-- a 32-bit read at a platform address -/
  | busRead (addr : Word)
  /-- a write of another width at a window offset -/
  | otherWidthWrite (off : BitVec 7)
  /-- a read of another width at a window offset -/
  | otherWidthRead (off : BitVec 7)
  /-- the host writes a byte of the external memory it owns -/
  | extWrite (addr : Word) (data : Byte)
  /-- the platform asserts the reset input -/
  | reset
deriving DecidableEq, Repr

/-- Everything the spec gives the machine, its configuration, the external memory, and the host's pending accesses. -/
structure State where
  /-- `STATUS` bit 0 (rule R24). -/
  faulted : Bool
  /-- `STATUS` bit 1 (rule R24). -/
  lastOk : Bool
  /-- `FAULT_CAUSE` (rule R25). -/
  cause : Cause
  /-- `FAULT_INFO` (rule R26). -/
  info : Word
  /-- `A0` (rule R22). -/
  a0 : Word
  /-- `A1` (rule R22). -/
  a1 : Word
  /-- `A2` (rule R22). -/
  a2 : Word
  /-- `A3` (rule R22). -/
  a3 : Word
  /-- `RES` (rule R23). -/
  res : Word
  /-- `PHASE` bits 3:0 (rule R27). -/
  phase : BitVec 4
  /-- `SLOT_NEW` bits 15:0 (rule R28). -/
  slotNew : Half
  /-- `SLOT_PREV` bits 15:0 (rule R28). -/
  slotPrev : Half
  /-- `G0` bits 15:0 (rule R29). -/
  g0 : Half
  /-- `G1` bits 15:0 (rule R29). -/
  g1 : Half
  /-- `V[0]`..`V[15]` (rule R30). -/
  v : Vector Word 16
  /-- The frame driver's state (rule R31). -/
  fsm : Fsm
  /-- Sub-blocks done (rule R31). -/
  sb : Nat
  /-- Groups done in the current sub-block (rule R31). -/
  grp : Nat
  /-- Workspace offset of the current group's input (rule R32). -/
  inCur : Half
  /-- Workspace offset of the current group's output (rule R32). -/
  outCur : Half
  /-- External address of the next sub-block to load (rule R32). -/
  extRd : Word
  /-- External address of the next sub-block to store (rule R32). -/
  extWr : Word
  /-- The workspace (rule R34): the bytes written since reset. -/
  ws : Memory
  /-- The configuration and the coefficient tables (00_scope.md rule R11, 10_state.md rule R36): no step changes it. -/
  cfg : Config
  /-- External memory (20_memory.md rule R48): the host's, the bytes written so far. -/
  ext : Memory
  /-- The host's pending accesses, oldest first: the model's own field (log entry 7). -/
  host : List HostAccess
  /-- The data of the host's latest read: the model's own field (log entry 11). -/
  rdata : Word
  /-- How many resets have happened: the model's own field, which numbers the free values a reset draws (log entry 4). -/
  epoch : Nat
  /-- How many bus responses the platform has decided: the model's own field (log entry 9). -/
  draws : Nat
deriving DecidableEq, Repr

/-- Why the model stops with a fault. A fault of the PSFB is never one of these: it is a next state (60_exceptions.md
rule R145). -/
inductive Fault where
  /-- Raised by a host write (HostAccess.extWrite) to an external address that is not below `EXT_SIZE`: 20_memory.md rule
  R48 says no such address exists. Safe: the model stops. Log entry 13. -/
  | extAbsent (addr : Word)
deriving DecidableEq, Repr

/-- Why the model refuses to go on. -/
inductive Refusal where
  /-- Raised by an arm of exec whose instruction has no meaning yet. Safe: the model stops. -/
  | notModelled (mnemonic : String)
  /-- Raised by every step, and by DECODE, under a configuration that is not well formed: 20_memory.md rule R60 says it
  "is refused by the model, not run". Safe: the model stops. Log entry 12. -/
  | badConfig
deriving DecidableEq, Repr

/-- The PSFB right after its `e`-th reset under configuration `c` (10_state.md rule R45), with the environment around it:
what external memory holds, what the host has pending and has last read. -/
def State.afterReset (c : Config) (e : Nat) (ext : Memory) (host : List HostAccess) (rdata : Word) (draws : Nat) :
    State where
  faulted := false
  lastOk := false
  cause := .none
  info := 0
  a0 := 0
  a1 := 0
  a2 := 0
  a3 := 0
  res := 0
  phase := 0
  slotNew := c.slotA
  slotPrev := c.slotB
  g0 := 0
  g1 := 0
  v := ⟨((List.range 16).map (Config.freeV e)).toArray, by simp⟩
  fsm := .idle
  sb := 0
  grp := 0
  inCur := (Config.freeCursor e 0).setWidth 16
  outCur := (Config.freeCursor e 1).setWidth 16
  extRd := Config.freeCursor e 2
  extWr := Config.freeCursor e 3
  ws := []
  cfg := c
  ext := ext
  host := host
  rdata := rdata
  epoch := e
  draws := draws

/-- The machine right after power-on reset (rule R152) under the default configuration, with external memory as the host
left it and no access pending. -/
def State.reset : State := State.afterReset Config.defaults 0 [] [] 0 0

end Sys2Proof.Machine
end

