-- ==== Sys2Proof/Machine/Ops.lean ====
section
/-! DEFINITION. The named operations over the two memories (20_memory.md, 41_workspace_ops.md section 1), the check of a
command's preconditions, and TAKING A FAULT (60_exceptions.md rule R145), the PSFB's one exception mechanism (rule R139). -/

namespace Sys2Proof.Machine

/-- The outcome of a command or of a step. -/
abbrev Out := Host.Outcome State Fault Refusal

/-! ### Bytes of a memory -/

/-- The byte listed at an address, if one is. -/
def Memory.get? : Memory → Nat → Option Byte
  | [], _ => none
  | (k, b) :: rest, a => if a < k then none else if a = k then some b else Memory.get? rest a

/-- The memory with a byte listed at an address, in the canonical form. -/
def Memory.set : Memory → Nat → Byte → Memory
  | [], a, b => [(a, b)]
  | (k, c) :: rest, a, b =>
    if a < k then (a, b) :: (k, c) :: rest
    else if a = k then (a, b) :: rest
    else (k, c) :: Memory.set rest a b

/-- Every listed address is above `lo`, and they rise strictly. -/
def Memory.risesFrom : Nat → Memory → Bool
  | _, [] => true
  | lo, (k, _) :: rest => decide (lo ≤ k) && Memory.risesFrom (k + 1) rest

/-- The canonical form: addresses strictly rising. No listed entry equals what an unlisted address reads as, since an
unlisted address holds no listed value (log entry 4). -/
def Memory.wf (m : Memory) : Bool := Memory.risesFrom 0 m

/-- Every listed address exists: it is below the memory's size (20_memory.md rules R48, R49). -/
def Memory.below (size : Nat) (m : Memory) : Bool := m.all fun c => decide (c.1 < size)

/-! ### The workspace (20_memory.md rules R49, R50) -/

/-- `WS[a]`: the byte written since reset, else the free value the `e`-th reset left there (log entry 4). -/
def wsByteAt (e : Nat) (m : Memory) (a : Nat) : Byte := (m.get? a).getD (Config.freeWs e a)

/-- `WS[a] <- b`. Offsets of 4096 and more do not exist; every command checks its offsets first (rule R144), so none
reaches one (log entry 16). -/
def putByte (m : Memory) (a : Nat) (b : Byte) : Memory := if a < 4096 then m.set a b else m

/-- `SampleRead(a)` (41_workspace_ops.md rule R86) after its checks: `WS[a]` is bits 15:8 (20_memory.md rule R50). -/
def sampleAt (e : Nat) (m : Memory) (a : Nat) : Half := wsByteAt e m a ++ wsByteAt e m (a + 1)

/-- `SampleWrite(a, v)` (rule R87) after its checks, of a value already narrowed to its low 16 bits. -/
def putSample (m : Memory) (a : Nat) (v : Half) : Memory :=
  putByte (putByte m a (v.extractLsb' 8 8)) (a + 1) (v.extractLsb' 0 8)

/-- Sample writes in the order listed, each keeping the low 16 bits of its 32-bit value (rule R87, 43_synthesis.md rule
R102). -/
def putSamples (m : Memory) (writes : List (Nat × Word)) : Memory :=
  writes.foldl (fun m w => putSample m w.1 (w.2.setWidth 16)) m

/-! ### External memory (20_memory.md rule R48) -/

/-- `MemRead(a, 1)`: the byte written, else the host's free value (log entry 6). -/
def extByteAt (m : Memory) (a : Nat) : Byte := (m.get? a).getD (Config.freeExt a)

/-- `MemWrite(a, 1, b)`. Addresses of `size` and more do not exist; every command checks its addresses first (rule R144),
so none reaches one (log entry 16). -/
def putExt (size : Nat) (m : Memory) (a : Nat) (b : Byte) : Memory := if a < size then m.set a b else m

/-! ### Bulk copies (41_workspace_ops.md rules R88, R89): ascending, bytes unchanged -/

/-- `for i in [0, n): WS[o + i] <- MemRead(e + i, 1)`. -/
def copyIn (ws ext : Memory) (o e n : Nat) : Memory :=
  (List.range n).foldl (fun m i => putByte m (o + i) (extByteAt ext (e + i))) ws

/-- `for i in [0, n): MemWrite(e + i, 1, WS[o + i])`, the workspace being that of the `ep`-th reset. -/
def copyOut (size : Nat) (ext : Memory) (ep : Nat) (ws : Memory) (e o n : Nat) : Memory :=
  (List.range n).foldl (fun m i => putExt size m (e + i) (wsByteAt ep ws (o + i))) ext

/-! ### The same, of a state -/

/-- `WS[a]`. -/
def State.wsByte (s : State) (a : Nat) : Byte := wsByteAt s.epoch s.ws a

/-- `SampleRead(a)` after its checks. -/
def State.sample (s : State) (a : Nat) : Half := sampleAt s.epoch s.ws a

/-- `MemRead(a, 1)`. -/
def State.extByte (s : State) (a : Nat) : Byte := extByteAt s.ext a

/-- `EXT_SIZE` (20_memory.md rule R48). -/
def State.extSize (s : State) : Nat := s.cfg.extSize.val

/-! ### Taking a fault (60_exceptions.md rules R142 to R145) -/

/-- `raise Fault(cause, info)` (rule R145): the first fault's record is never overwritten. -/
def State.enterFault (c : Cause) (info : Word) (s : State) : State :=
  { s with
    cause := if s.faulted then s.cause else c
    info := if s.faulted then s.info else info
    faulted := true
    lastOk := false }

/-- A command that completes sets `LAST_OK` (30_encoding.md rule R68). -/
def State.completed (s : State) : State := { s with lastOk := true }

/-- The reset input, between two host accesses (70_reset_and_hazards.md rules R152, R154): the PSFB takes its reset state
and draws new free values; external memory, the configuration and the host are untouched. It is the only way out of the
faulted state (rule R147). -/
def State.resetEvent (s : State) : State :=
  State.afterReset s.cfg (s.epoch + 1) s.ext s.host s.rdata s.draws

/-- One precondition of a command: whether it is violated, and the fault it then raises. -/
structure Check where
  bad : Bool
  cause : Cause
  info : Word
deriving DecidableEq, Repr

/-- A sample offset must be even (20_memory.md rule R54). -/
def misaligned (a : Word) : Check := ⟨a.toNat % 2 ≠ 0, .misaligned, a⟩

/-- `n` workspace bytes from the offset must exist (rule R56, computed without wrap). -/
def wsRange (a : Word) (n : Nat) : Check := ⟨a.toNat + n > 4096, .wsRange, a⟩

/-- `n` external bytes from the address must exist (rule R57, computed without wrap). -/
def extRange (size : Nat) (a : Word) (n : Nat) : Check := ⟨a.toNat + n > size, .extRange, a⟩

/-- A phase operand must be below 16 (44_window.md rule R119, 46_frame_driver.md rule R126). -/
def badPhase (p : Word) : Check := ⟨p.toNat ≥ 16, .badPhase, p⟩

/-- A command: its preconditions in the order of its rule, the first violated one being the one reported (60_exceptions.md
rule R143) and nothing else happening (rule R144); else its effect, to completion (30_encoding.md rule R68). -/
def State.perform (checks : List Check) (run : State → State) (s : State) : Out :=
  .next (match checks.find? (·.bad) with
    | some c => s.enterFault c.cause c.info
    | none => (run s).completed)

end Sys2Proof.Machine
end

