-- ==== Sys2Proof/Machine/Gain.lean ====
section
/-! DEFINITION. The gain stage (45_gain.md) and the GAIN command. -/

namespace Sys2Proof.Machine

/-- `applyGain(offset, count, gain)` (rule R121): ascending, each sample read and written before the next is read. -/
def applyGain (e : Nat) (ws : Memory) (o n : Nat) (g : Half) : Memory :=
  (List.range n).foldl (fun m i => putSample m (o + 2 * i) (scaledMultiply (sampleAt e m (o + 2 * i)) g)) ws

/-- `gsel` (rule R122): the gain of a group's last 16 samples, by the phase's parity and `GSEL_ODD`. -/
def gainSelect (c : Config) (p : Nat) (g0 g1 : Half) : Half :=
  if decide (p % 2 = 1) = decide (c.gselOdd = .g1) then g1 else g0

/-- GAIN (rule R123): o = A0, n = A1, g = A2[15:0]. -/
def execGain (s : State) : Out :=
  s.perform [misaligned s.a0, wsRange s.a0 (2 * unsigned s.a1)] fun s =>
    { s with ws := applyGain s.epoch s.ws (unsigned s.a0) (unsigned s.a1) (low16 s.a2) }

end Sys2Proof.Machine
end

