-- ==== Sys2Proof/Machine/Butterfly.lean ====
section
/-! DEFINITION. The butterfly network (42_butterfly.md): a function of 16 lanes, and the BFLY command. -/

namespace Sys2Proof.Machine

/-- The 16 lanes of the network (10_state.md rule R30). -/
abbrev Lanes := Vector Word 16

/-- `combine(i, j, w)` (rule R92): lane i keeps the sum, lane j the weighted difference; both are read first. -/
def combine (mode : MulshMode) (v : Lanes) (i j : Fin 16) (w : Word) : Lanes :=
  (v.set i (v[i] + v[j])).set j (mulShift16 mode (v[i] - v[j]) w)

/-- Stage 1, 8-wide (rule R94). -/
def stage1 (c : Config) (v : Lanes) : Lanes :=
  (List.finRange 8).foldl (fun v (i : Fin 8) =>
    combine c.mulshMode v ⟨i, by omega⟩ ⟨8 + i, by omega⟩ (c.w8[i].setWidth 32)) v

/-- Stage 2, 4-wide (rule R95): both halves share `W4[i]`. -/
def stage2 (c : Config) (v : Lanes) : Lanes :=
  (List.finRange 4).foldl (fun v (i : Fin 4) =>
    combine c.mulshMode
      (combine c.mulshMode v ⟨i, by omega⟩ ⟨4 + i, by omega⟩ (c.w4[i].setWidth 32))
      ⟨8 + i, by omega⟩ ⟨12 + i, by omega⟩ (c.w4[i].setWidth 32)) v

/-- Stage 3, 2-wide (rule R96): distance 2 inside each group of four lanes, b = 0, 4, 8, 12. -/
def stage3 (c : Config) (v : Lanes) : Lanes :=
  (List.finRange 4).foldl (fun v (q : Fin 4) =>
    combine c.mulshMode
      (combine c.mulshMode v ⟨4 * q, by omega⟩ ⟨4 * q + 2, by omega⟩ (c.w2[0].setWidth 32))
      ⟨4 * q + 1, by omega⟩ ⟨4 * q + 3, by omega⟩ (c.w2[1].setWidth 32)) v

/-- Stage 4, 1-wide (rule R97): pair j uses `SCALE[SCALE_SEL[j]]`. -/
def stage4 (c : Config) (v : Lanes) : Lanes :=
  (List.finRange 8).foldl (fun v (j : Fin 8) =>
    combine c.mulshMode v ⟨2 * j, by omega⟩ ⟨2 * j + 1, by omega⟩ (c.scale[c.scaleSel[j]].setWidth 32)) v

/-- The correction shifts (rule R98). -/
def correct (v : Lanes) : Lanes :=
  (((v.set 6 (v[6] <<< 1)).set 10 (v[10] <<< 1)).set 12 (v[12] <<< 1)).set 14 (v[14] <<< 2)

/-- `Butterfly(v)` (rule R93). -/
def butterfly (c : Config) (v : Lanes) : Lanes :=
  correct (stage4 c (stage3 c (stage2 c (stage1 c v))))

/-- BFLY (rule R99): `V <- Butterfly(V)`. -/
def execBfly (s : State) : Out :=
  s.perform [] fun s => { s with v := butterfly s.cfg s.v }

end Sys2Proof.Machine
end

