-- ==== Sys2Proof/Machine/Synthesis.lean ====
section
/-! DEFINITION. The synthesis transform (43_synthesis.md) and the SYNTH command. N and P are the offsets of the NEW and the
PREV slot, I that of the input group. The transform is a function of the workspace: `e` numbers the reset whose free
values its unwritten bytes hold. -/

namespace Sys2Proof.Machine

/-- `in[k]` (rule R103), as a transform value. -/
def inputSample (e : Nat) (ws : Memory) (I k : Nat) : Word := sext32 (sampleAt e ws (I + 2 * k))

/-- The even pass's input (rule R104): the mirrored sums. -/
def evenInput (c : Config) (e : Nat) (ws : Memory) (I : Nat) : Lanes :=
  Vector.ofFn fun i : Fin 16 => inputSample e ws I c.pairLo[i] + inputSample e ws I c.pairHi[i]

/-- The odd pass's input (rule R107): the weighted mirrored differences. -/
def oddInput (c : Config) (e : Nat) (ws : Memory) (I : Nat) : Lanes :=
  Vector.ofFn fun i : Fin 16 =>
    mulShift16 c.mulshMode (inputSample e ws I c.pairLo[i] - inputSample e ws I c.pairHi[i])
      (c.oddW[i].setWidth 32)

/-- The even pass's history writes, in the order of rule R105. -/
def evenWrites (N P : Nat) (b : Lanes) : List (Nat × Word) :=
  let t14 := b[8] + b[10] - b[14]
  let t13 := b[12] + b[13] - b[8] - b[9]
  [(N + 0x000, b[1]),
   (P + 0x200, -b[0]),
   (P + 0x000, -b[1]),
   (P + 0x100, -b[2]),
   (N + 0x100, b[3] - b[2]),
   (P + 0x180, -b[4]),
   (N + 0x180, b[7] - b[5] - b[4]),
   (P + 0x080, b[4] - b[6]),
   (N + 0x080, b[4] + b[5] - b[6]),
   (N + 0x040, b[9] + t14),
   (N + 0x0C0, t13 - b[10]),
   (N + 0x140, b[11] - t13),
   (N + 0x1C0, b[15] - b[11] - b[8] - b[9]),
   (P + 0x140, b[8] - b[12]),
   (P + 0x1C0, -b[8]),
   (P + 0x040, t14),
   (P + 0x0C0, b[12] - b[8] - b[10])]

/-- The odd pass's history writes, in the order of rule R108; d is the butterfly output the rule calls c. -/
def oddWrites (N P : Nat) (d : Lanes) : List (Nat × Word) :=
  let h0 := d[0].sshiftRight 1
  let h1 := d[1]
  let h2 := -d[2]
  let h3 := d[3]
  let h4 := d[4] + h0
  let h5 := d[5] + h1
  let h6 := d[6] + h0 - h2
  let h7 := d[7] + h0 + h1 + h3
  let h8 := d[8]
  let h9 := d[9]
  let h10 := d[10] + h8
  let h11 := d[11] + h8 + h9
  let h12 := h4 - d[12]
  let h13 := d[13] - h12 - h5
  let h14 := h6 - d[14]
  let h15 := d[15] - h7
  [(P + 0x1E0, -h0),
   (P + 0x120, -h12),
   (P + 0x020, h14),
   (N + 0x020, h14 + h1),
   (N + 0x1E0, h15),
   (P + 0x060, h10 - h6),
   (P + 0x0A0, h4 - (h10 + h2)),
   (P + 0x0E0, h2 - h12),
   (P + 0x160, h8 - h4),
   (P + 0x1A0, h0 - h8),
   (N + 0x1A0, h7 - h11),
   (N + 0x060, (h9 + h10) - (h1 + h6)),
   (N + 0x160, h11 - h3 - (h4 + h5)),
   (N + 0x120, h3 - h13),
   (N + 0x0E0, h13 + h2),
   (N + 0x0A0, (h4 + h5) - h2 - (h9 + h10))]

/-- The even pass (rules R103, R104, R105). -/
def evenPass (c : Config) (e : Nat) (ws : Memory) (I N P : Nat) : Memory :=
  putSamples ws (evenWrites N P (butterfly c (evenInput c e ws I)))

/-- The odd pass (rules R103, R107, R108). -/
def oddPass (c : Config) (e : Nat) (ws : Memory) (I N P : Nat) : Memory :=
  putSamples ws (oddWrites N P (butterfly c (oddInput c e ws I)))

/-- The transform: the odd pass reloads its input after the even pass's last write (rule R103). -/
def synthesis (c : Config) (e : Nat) (ws : Memory) (I N P : Nat) : Memory :=
  oddPass c e (evenPass c e ws I N P) I N P

/-- SYNTH (rule R111): I = A0, N = A1, P = A2. -/
def execSynth (s : State) : Out :=
  s.perform [misaligned s.a0, misaligned s.a1, misaligned s.a2,
      wsRange s.a0 0x40, wsRange s.a1 0x1E2, wsRange s.a2 0x202] fun s =>
    { s with ws := synthesis s.cfg s.epoch s.ws (unsigned s.a0) (unsigned s.a1) (unsigned s.a2) }

end Sys2Proof.Machine
end

