-- ==== Sys2Proof/Machine/Window.lean ====
section
/-! DEFINITION. The window / overlap-add stage (44_window.md) and the WINDOW command. p is the phase, H the base of the NEW
slot, O the output offset. -/

namespace Sys2Proof.Machine

/-- `Hist(r, k)` (rule R113). -/
def hist (e : Nat) (ws : Memory) (H r k : Nat) : Half := sampleAt e ws (H + 0x20 * r + 2 * k)

/-- `D(i)` (rule R113). Every index the window uses is in [0, 1056) (rule R120; log entry 23). -/
def dewinAt (c : Config) (i : Nat) : Half := c.dewin[i]?.getD 0

/-- `rd(Hist(r, k), D(base + k))` (rule R113). -/
def tap (c : Config) (e : Nat) (ws : Memory) (H r base k : Nat) : Word :=
  roundedDot (hist e ws H r k) (dewinAt c (base + k))

/-- A 32-bit accumulator that starts at 0 and adds a term for each column listed (rule R113). -/
def accumulate (f : Nat → Word) (ks : List Nat) : Word := ks.foldl (fun acc k => acc + f k) 0

/-- First half, output n (rule R114): accA + accB over row n. -/
def firstHalf (c : Config) (e : Nat) (ws : Memory) (p H n : Nat) : Word :=
  let base := 0x10 - p + 0x20 * n
  accumulate (tap c e ws H n base) [0, 1, 2, 3, 4, 5, 6, 7] +
  accumulate (tap c e ws H n base) [8, 9, 10, 11, 12, 13, 14, 15]

/-- The crossover (rule R115): the even or the odd columns of row 16, by the phase's parity and `XSEL_ODD`. -/
def crossover (c : Config) (e : Nat) (ws : Memory) (p H : Nat) : Word :=
  let base := 0x210 - p
  if decide (p % 2 = 1) = decide (c.xselOdd = .evenTaps) then
    accumulate (tap c e ws H 16 base) [0, 2, 4, 6, 8, 10, 12, 14]
  else
    accumulate (tap c e ws H 16 base) [1, 3, 5, 7, 9, 11, 13, 15]

/-- `(-1)^k * x`: even columns add, odd columns subtract (rule R116). -/
def alternating (f : Nat → Word) (k : Nat) : Word := if k % 2 = 0 then f k else -(f k)

/-- Second half, output m (rule R116): row 15 - m with alternating signs. -/
def secondHalf (c : Config) (e : Nat) (ws : Memory) (p H m : Nat) : Word :=
  let base := 0x22F - p + 0x20 * m
  accumulate (alternating (tap c e ws H (15 - m) base)) [0, 1, 2, 3, 4, 5, 6, 7] +
  accumulate (alternating (tap c e ws H (15 - m) base)) [8, 9, 10, 11, 12, 13, 14, 15]

/-- The value of output j of the 33 (rule R117). -/
def windowValue (c : Config) (e : Nat) (ws : Memory) (p H j : Nat) : Word :=
  if j < 16 then firstHalf c e ws p H j
  else if j = 16 then crossover c e ws p H
  else secondHalf c e ws p H (j - 17)

/-- The 33 outputs in order (rule R117), each output's reads, then its truncating write (rules R118, R119). -/
def windowPass (c : Config) (e : Nat) (ws : Memory) (p H O : Nat) : Memory :=
  (List.range 33).foldl (fun m j => putSample m (O + 2 * j) (low16 (windowValue c e m p H j))) ws

/-- The slot operand's check (rule R119): it has 16 bits and its 17 rows exist. -/
def slotRange (n : Word) : Check := ⟨n.toNat ≥ 0x10000 || slotBase n + 0x220 > 4096, .wsRange, n⟩

/-- WINDOW (rule R119): p = A0, N = A1, O = A2. -/
def execWindow (s : State) : Out :=
  s.perform [badPhase s.a0, misaligned s.a2, slotRange s.a1, wsRange s.a2 0x42] fun s =>
    { s with ws := windowPass s.cfg s.epoch s.ws (unsigned s.a0) (slotBase s.a1) (unsigned s.a2) }

end Sys2Proof.Machine
end

