-- ==== Sys2Proof/Machine/FrameDriver.lean ====
section
/-! DEFINITION. The frame driver (46_frame_driver.md): the group body, its state machine, and the commands GROUP and DECODE. -/

namespace Sys2Proof.Machine

/-! ### The group body (rule R130) -/

/-- `PHASE <- (PHASE - 1) mod 16` (rule R131). -/
def State.rotatePhase (s : State) : State := { s with phase := s.phase - 1 }

/-- A slot register with bits 4:0 replaced by `2*p` (rule R132). -/
def mutateSlot (slot : Half) (p : BitVec 4) : Half := (slot &&& 0xFFE0#16) ||| (p.setWidth 16 <<< 1)

/-- Both slot registers take the group's column (rule R132). -/
def State.mutateSlots (s : State) : State :=
  { s with slotNew := mutateSlot s.slotNew s.phase, slotPrev := mutateSlot s.slotPrev s.phase }

/-- The slot registers exchange values (rule R133). -/
def State.swapSlots (s : State) : State := { s with slotNew := s.slotPrev, slotPrev := s.slotNew }

/-- What a group does to the workspace, with the phase `p` and the slot registers `N`, `P` it works with: transform,
window, gain twice (rules R122, R130). -/
def groupWorkspace (c : Config) (e : Nat) (ws : Memory) (I O : Nat) (p : BitVec 4) (N P g0 g1 : Half) : Memory :=
  let ws := synthesis c e ws I N.toNat P.toNat
  let ws := windowPass c e ws p.toNat (slotBase (zext32 N)) O
  let ws := applyGain e ws O 17 g0
  applyGain e ws (O + 0x22) 16 (gainSelect c p.toNat g0 g1)

/-- The group's work on the workspace (rule R130, between the slot mutation and the swap). -/
def State.groupWork (I O : Nat) (s : State) : State :=
  { s with ws := groupWorkspace s.cfg s.epoch s.ws I O s.phase s.slotNew s.slotPrev s.g0 s.g1 }

/-- `group(I, O)` (rule R130). -/
def State.groupBody (I O : Nat) (s : State) : State :=
  let s := if s.cfg.rotateFirst then s.rotatePhase else s
  let s := ((s.mutateSlots).groupWork I O).swapSlots
  if s.cfg.rotateFirst then s else s.rotatePhase

/-- GROUP (rule R134): I = A0, O = A1. -/
def execGroup (s : State) : Out :=
  s.perform [misaligned s.a0, misaligned s.a1, wsRange s.a0 0x40, wsRange s.a1 0x42,
      slotRange (zext32 s.slotNew), slotRange (zext32 s.slotPrev)] fun s =>
    s.groupBody (unsigned s.a0) (unsigned s.a1)

/-! ### The actions of the state machine (rule R124) -/

/-- Init, Idle to HeaderRead (rule R127): E is the external base address, p0 the initial phase. -/
def State.decodeInit (E p0 : Word) (s : State) : State :=
  { s with
    phase := p0.setWidth 4
    slotNew := s.cfg.slotA
    slotPrev := s.cfg.slotB
    extRd := E + 8
    extWr := E
    sb := 0
    fsm := .headerRead }

/-- HeaderRead (rule R128): the header's copy, then the gains, the samples at `HDR_OFF` and `HDR_OFF + 4`. -/
def State.headerRead (E : Word) (s : State) : State :=
  let ws := copyIn s.ws s.ext s.cfg.hdrOff.toNat E.toNat 8
  { s with
    ws := ws
    g0 := sampleAt s.epoch ws s.cfg.hdrOff.toNat
    g1 := sampleAt s.epoch ws (s.cfg.hdrOff.toNat + 4)
    fsm := .subBlockLoad }

/-- SubBlockLoad (rule R129). -/
def State.subBlockLoad (s : State) : State :=
  { s with
    ws := copyIn s.ws s.ext s.cfg.inOff.toNat s.extRd.toNat 0x180
    extRd := s.extRd + 0x180
    inCur := s.cfg.inOff
    outCur := s.cfg.outOff
    grp := 0
    fsm := .groupLoop }

/-- One turn of GroupLoop (rules R124, R130, R133): the group body at the cursors, the cursors' advance, the count. -/
def State.groupTurn (s : State) : State :=
  let s := s.groupBody s.inCur.toNat s.outCur.toNat
  { s with inCur := s.inCur + 0x40, outCur := s.outCur + 0x40, grp := s.grp + 1 }

/-- GroupLoop left after six groups (rule R124). -/
def State.groupsDone (s : State) : State := { s with fsm := .subBlockStore }

/-- SubBlockStore (rule R135). -/
def State.subBlockStore (s : State) : State :=
  { s with
    ext := copyOut s.extSize s.ext s.epoch s.ws s.extWr.toNat s.cfg.outOff.toNat 0x180
    extWr := s.extWr + 0x180
    sb := s.sb + 1
    fsm := if s.sb + 1 < 3 then .subBlockLoad else .done }

/-- Done (rule R136). -/
def State.frameDone (s : State) : State := { s with fsm := .idle }

/-- One transition of the table of rule R124 after Idle; E is the DECODE's external base address. -/
def State.fsmTransition (E : Word) (s : State) : State :=
  match s.fsm with
  | .idle => s
  | .headerRead => s.headerRead E
  | .subBlockLoad => s.subBlockLoad
  | .groupLoop => if s.grp < 6 then s.groupTurn else s.groupsDone
  | .subBlockStore => s.subBlockStore
  | .done => s.frameDone

/-- `k` transitions, one after another inside one DECODE. -/
def State.fsmWalk (E : Word) : Nat → State → State
  | 0, s => s
  | k + 1, s => State.fsmWalk E k (s.fsmTransition E)

/-! ### DECODE (rule R125) -/

/-- `n` turns of GroupLoop. -/
def State.groupTurns : Nat → State → State
  | 0, s => s
  | n + 1, s => State.groupTurns n s.groupTurn

/-- One sub-block: load, six groups, store (rule R125). -/
def State.subBlock (s : State) : State := ((State.groupTurns 6 s.subBlockLoad).groupsDone).subBlockStore

/-- A frame after its checks (rule R125): init, header, three sub-blocks, done. -/
def State.decodeFrame (E p0 : Word) (s : State) : State :=
  let s := (s.decodeInit E p0).headerRead E
  (((s.subBlock).subBlock).subBlock).frameDone

/-- The sample offsets of the fixed layout (41_workspace_ops.md rule R86, 60_exceptions.md rule R144): the header's, the
input's and the output's samples lie at odd offsets exactly when their region starts at one. Log entry 12. -/
def layoutMisaligned (c : Config) : List Check :=
  [misaligned (zext32 c.hdrOff), misaligned (zext32 c.inOff), misaligned (zext32 c.outOff)]

/-- DECODE (rules R125, R126): E = A0, p0 = A1. The checks are in the order of rule R143. A configuration whose layout breaks
20_memory.md rule R60 is refused. Log entry 12. -/
def execDecode (s : State) : Out :=
  if s.cfg.wellFormed then
    s.perform (badPhase s.a1 :: layoutMisaligned s.cfg ++ [extRange s.extSize s.a0 0x488]) fun s =>
      s.decodeFrame s.a0 s.a1
  else .refused .badConfig

end Sys2Proof.Machine
end

