-- ==== Sys2Proof/Machine/Primitives.lean ====
section
/-! DEFINITION. The primitive commands (40_primitives.md section 2). None has a precondition of its own. -/

namespace Sys2Proof.Machine

/-- SAT16 (rule R81): `RES <- sext_32(saturate16(A0))`. -/
def execSat16 (s : State) : Out :=
  s.perform [] fun s => { s with res := sext32 (saturate16 s.a0) }

/-- MULSH (rule R82): `RES <- mulShift16(A0, A1)`. -/
def execMulsh (s : State) : Out :=
  s.perform [] fun s => { s with res := mulShift16 s.cfg.mulshMode s.a0 s.a1 }

/-- RDOT (rule R83): `RES <- roundedDot(A0[15:0], A1[15:0])`. -/
def execRdot (s : State) : Out :=
  s.perform [] fun s => { s with res := roundedDot (low16 s.a0) (low16 s.a1) }

/-- GMUL (rule R84): `RES <- sext_32(scaledMultiply(A0[15:0], A1[15:0]))`. -/
def execGmul (s : State) : Out :=
  s.perform [] fun s => { s with res := sext32 (scaledMultiply (low16 s.a0) (low16 s.a1)) }

end Sys2Proof.Machine
end

