-- ==== Sys2Proof/Machine/Workspace.lean ====
section
/-! DEFINITION. The workspace and bulk-transfer commands (41_workspace_ops.md section 2). -/

namespace Sys2Proof.Machine

/-- BLOAD (rule R88): e = A0, o = A1, n = A2. -/
def execBload (s : State) : Out :=
  s.perform [wsRange s.a1 (unsigned s.a2), extRange s.extSize s.a0 (unsigned s.a2)] fun s =>
    { s with ws := copyIn s.ws s.ext (unsigned s.a1) (unsigned s.a0) (unsigned s.a2) }

/-- BSTORE (rule R89): o = A0, e = A1, n = A2. -/
def execBstore (s : State) : Out :=
  s.perform [wsRange s.a0 (unsigned s.a2), extRange s.extSize s.a1 (unsigned s.a2)] fun s =>
    { s with ext := copyOut s.extSize s.ext s.epoch s.ws (unsigned s.a1) (unsigned s.a0) (unsigned s.a2) }

/-- SRD (rule R90): `RES <- sext_32(SampleRead(A0))`. -/
def execSrd (s : State) : Out :=
  s.perform [misaligned s.a0, wsRange s.a0 2] fun s =>
    { s with res := sext32 (s.sample (unsigned s.a0)) }

/-- SWR (rule R91): `SampleWrite(A0, A1[15:0])`. -/
def execSwr (s : State) : Out :=
  s.perform [misaligned s.a0, wsRange s.a0 2] fun s =>
    { s with ws := putSample s.ws (unsigned s.a0) (low16 s.a1) }

end Sys2Proof.Machine
end

