-- ==== Sys2Proof/Machine/Dispatch.lean ====
section
/-! DEFINITION. exec: what a command does once it has been issued, not refused, and decoded (30_encoding.md rule R68). -/

namespace Sys2Proof.Machine

def exec (i : Instr) (s : State) : Host.Outcome State Fault Refusal :=
  match i with
  | .sat16 => Sys2Proof.Machine.execSat16 s
  | .mulsh => Sys2Proof.Machine.execMulsh s
  | .rdot => Sys2Proof.Machine.execRdot s
  | .gmul => Sys2Proof.Machine.execGmul s
  | .bload => Sys2Proof.Machine.execBload s
  | .bstore => Sys2Proof.Machine.execBstore s
  | .srd => Sys2Proof.Machine.execSrd s
  | .swr => Sys2Proof.Machine.execSwr s
  | .bfly => Sys2Proof.Machine.execBfly s
  | .synth => Sys2Proof.Machine.execSynth s
  | .window => Sys2Proof.Machine.execWindow s
  | .gain => Sys2Proof.Machine.execGain s
  | .group => Sys2Proof.Machine.execGroup s
  | .decode => Sys2Proof.Machine.execDecode s

end Sys2Proof.Machine
end

