-- ==== Sys2Proof/Machine/Flags.lean ====
section
/-! DEFINITION. The PSFB has no condition flags (10_state.md rule R42). What it reports are the bits of `STATUS` and the
code in `FAULT_CAUSE`, as a host read returns them. -/

namespace Sys2Proof.Machine

/-- `STATUS`: bit 0 `FAULTED`, bit 1 `LAST_OK`, bits 31:2 read 0 (10_state.md rule R24). -/
def State.statusWord (s : State) : Word :=
  (BitVec.ofBool s.lastOk ++ BitVec.ofBool s.faulted).setWidth 32

/-- The cause codes of 60_exceptions.md rule R142. -/
def Cause.code : Cause → BitVec 8
  | .none => 0x00
  | .illegalCommand => 0x01
  | .misaligned => 0x02
  | .wsRange => 0x03
  | .extRange => 0x04
  | .badPhase => 0x05

/-- `FAULT_CAUSE`: bits 7:0 the code, bits 31:8 read 0 (rule R25). -/
def State.causeWord (s : State) : Word := s.cause.code.setWidth 32

end Sys2Proof.Machine
end

