-- ==== Sys2Proof/Machine/HostPort.lean ====
section
/-! DEFINITION. The host's side: the register window (10_state.md section 2, rule R46; 30_encoding.md rule R74), the issue
of a command (rule R68), and the pending accesses. -/

namespace Sys2Proof.Machine

/-! ### The register window -/

/-- The register at a window offset (10_state.md section 2). -/
def regAt (off : BitVec 7) : Option HostReg :=
  match off.toNat with
  | 0x00 => some .cmd
  | 0x04 => some .status
  | 0x08 => some .faultCause
  | 0x0C => some .faultInfo
  | 0x10 => some .a0
  | 0x14 => some .a1
  | 0x18 => some .a2
  | 0x1C => some .a3
  | 0x20 => some .res
  | 0x24 => some .phase
  | 0x28 => some .slotNew
  | 0x2C => some .slotPrev
  | 0x30 => some .g0
  | 0x34 => some .g1
  | o => if 0x40 ≤ o ∧ o % 4 = 0 then some (.v (Fin.ofNat 16 ((o - 0x40) / 4))) else none

/-- The offset of a register (10_state.md section 2). -/
def regOffset : HostReg → BitVec 7
  | .cmd => 0x00
  | .status => 0x04
  | .faultCause => 0x08
  | .faultInfo => 0x0C
  | .a0 => 0x10
  | .a1 => 0x14
  | .a2 => 0x18
  | .a3 => 0x1C
  | .res => 0x20
  | .phase => 0x24
  | .slotNew => 0x28
  | .slotPrev => 0x2C
  | .g0 => 0x30
  | .g1 => 0x34
  | .v i => BitVec.ofNat 7 (0x40 + 4 * i.val)

/-- What a host read of a register returns (rules R21 to R30). -/
def State.readReg (s : State) : HostReg → Word
  | .cmd => 0
  | .status => s.statusWord
  | .faultCause => s.causeWord
  | .faultInfo => s.info
  | .a0 => s.a0
  | .a1 => s.a1
  | .a2 => s.a2
  | .a3 => s.a3
  | .res => s.res
  | .phase => s.phase.setWidth 32
  | .slotNew => zext32 s.slotNew
  | .slotPrev => zext32 s.slotPrev
  | .g0 => sext32 s.g0
  | .g1 => sext32 s.g1
  | .v i => s.v[i]

/-- A host write of a register other than `CMD` (rules R22, R27 to R30); a read-only register ignores it (rule R46). -/
def State.writeReg (s : State) (r : HostReg) (d : Word) : State :=
  match r with
  | .cmd => s
  | .status => s
  | .faultCause => s
  | .faultInfo => s
  | .a0 => { s with a0 := d }
  | .a1 => { s with a1 := d }
  | .a2 => { s with a2 := d }
  | .a3 => { s with a3 := d }
  | .res => s
  | .phase => { s with phase := d.setWidth 4 }
  | .slotNew => { s with slotNew := low16 d }
  | .slotPrev => { s with slotPrev := low16 d }
  | .g0 => { s with g0 := low16 d }
  | .g1 => { s with g1 := low16 d }
  | .v i => { s with v := s.v.set i d }

/-! ### Issue (rule R68) -/

/-- A word written to `CMD`: refused while faulted (60_exceptions.md rule R146), else decoded; an illegal word raises
ILLEGAL_COMMAND (rule R67), a legal one is performed. -/
def issue (w : Word) (s : State) : Out :=
  if s.faulted then .next { s with lastOk := false }
  else
    match decode w with
    | .error _ => .next (s.enterFault .illegalCommand w)
    | .ok i => exec i s

/-! ### Host accesses -/

/-- The data a read returns to the host. -/
def State.respond (d : Word) (s : State) : State := { s with rdata := d }

/-- A response the platform decides: a free value (log entry 9). -/
def State.respondFree (s : State) : State := { s with rdata := Config.freeBus s.draws, draws := s.draws + 1 }

/-- A 32-bit write at a window offset: at a register, its effect; at an offset that is no register's, ignored (rule R46). -/
def hostWrite (off : BitVec 7) (d : Word) (s : State) : Out :=
  match regAt off with
  | some .cmd => issue d s
  | some r => .next (s.writeReg r d)
  | none => .next s

/-- A 32-bit read at a window offset: a register's value; 0 at an offset that is no register's (rule R46; log entry 9 for
one that is no multiple of 4). -/
def hostRead (off : BitVec 7) (s : State) : State :=
  match regAt off with
  | some r => s.respond (s.readReg r)
  | none => s.respond 0

/-- The window offset of a platform address, if it lies in the window at `HOST_BASE` (rule R74; log entries 10 and
26). -/
def windowOffset (c : Config) (addr : Word) : Option (BitVec 7) :=
  if c.hostBase.toNat ≤ addr.toNat ∧ addr.toNat < c.hostBase.toNat + 0x80 then
    some (BitVec.ofNat 7 (addr.toNat - c.hostBase.toNat))
  else none

/-- One host access (10_state.md rule R46; 30_encoding.md rule R74; 70_reset_and_hazards.md rule R152). An access outside
the window is none of the PSFB's. -/
def hostAccess (a : HostAccess) (s : State) : Out :=
  match a with
  | .write off d => hostWrite off d s
  | .read off => .next (hostRead off s)
  | .busWrite addr d =>
    match windowOffset s.cfg addr with
    | some off => hostWrite off d s
    | none => .next s
  | .busRead addr =>
    match windowOffset s.cfg addr with
    | some off => .next (hostRead off s)
    | none => .next s.respondFree
  | .otherWidthWrite _ => .next s
  | .otherWidthRead _ => .next s.respondFree
  | .extWrite addr b =>
    if addr.toNat < s.extSize then .next { s with ext := s.ext.set addr.toNat b }
    else .fault (.extAbsent addr)
  | .reset => .next s.resetEvent

/-- The oldest pending access; with none pending the PSFB holds all of its state (70_reset_and_hazards.md rule R163). -/
def hostTurn (s : State) : Out :=
  match s.host with
  | [] => .next s
  | a :: rest => hostAccess a { s with host := rest }

end Sys2Proof.Machine
end

