-- ==== Sys2Proof/Machine/Step.lean ====
section
/-! DEFINITION. One step: the oldest pending host access. The PSFB has no program counter and fetches nothing (10_state.md
rule R44): its next command is the word the host writes to `CMD`. -/

namespace Sys2Proof.Machine

/-- One step. A configuration that is not well formed is refused, not run (20_memory.md rule R60). -/
def step (s : State) : Host.Outcome State Fault Refusal :=
  if s.cfg.wellFormed then hostTurn s else .refused .badConfig

/-- The state with the host about to write the word `w` (its low `nbits` bits) to `CMD`: the next step issues it
(30_encoding.md rule R68; log entry 8). -/
def State.withFetchWord (s : State) (nbits w : Nat) : State :=
  { s with host := .write 0x00 (BitVec.ofNat 32 (w % 2 ^ nbits)) :: s.host }

end Sys2Proof.Machine
end

