-- ==== Sys2Proof/Machine/Script.lean ====
section
/-! DEFINITION. Host command scripts (30_encoding.md rules R75, R76): a line of text, what it says, and the host accesses it
stands for. Text is a list of characters. -/

namespace Sys2Proof.Machine

/-- A line of a script (rule R75). -/
inductive ScriptLine where
  | nothing
  | wr (r : HostReg) (value : Word)
  | rd (r : HostReg)
  | command (i : Instr) (operands : List Word)
deriving DecidableEq, Repr

/-! ### What a line stands for -/

/-- The host accesses of a line (rule R76): a command's operands go to A0, A1, A2, A3 in order, then `op << 24` to `CMD`;
a register whose operand is not given is not written. -/
def ScriptLine.accesses : ScriptLine → List HostAccess
  | .nothing => []
  | .wr r value => [.write (regOffset r) value]
  | .rd r => [.read (regOffset r)]
  | .command i operands =>
    ([HostReg.a0, .a1, .a2, .a3].zip operands).map (fun x => .write (regOffset x.1) x.2) ++
      [.write (regOffset .cmd) (encode i)]

/-! ### Names (rule R71 for the mnemonics, 10_state.md section 2 for the registers) -/

/-- The mnemonics of the opcode map. -/
def mnemonics : List (List Char × Instr) :=
  [(['S', 'A', 'T', '1', '6'], .sat16), (['M', 'U', 'L', 'S', 'H'], .mulsh), (['R', 'D', 'O', 'T'], .rdot),
   (['G', 'M', 'U', 'L'], .gmul), (['B', 'L', 'O', 'A', 'D'], .bload), (['B', 'S', 'T', 'O', 'R', 'E'], .bstore),
   (['S', 'R', 'D'], .srd), (['S', 'W', 'R'], .swr), (['B', 'F', 'L', 'Y'], .bfly), (['S', 'Y', 'N', 'T', 'H'], .synth),
   (['W', 'I', 'N', 'D', 'O', 'W'], .window), (['G', 'A', 'I', 'N'], .gain), (['G', 'R', 'O', 'U', 'P'], .group),
   (['D', 'E', 'C', 'O', 'D', 'E'], .decode)]

/-- The names of the registers but the lanes. -/
def registerNames : List (List Char × HostReg) :=
  [(['C', 'M', 'D'], .cmd), (['S', 'T', 'A', 'T', 'U', 'S'], .status),
   (['F', 'A', 'U', 'L', 'T', '_', 'C', 'A', 'U', 'S', 'E'], .faultCause),
   (['F', 'A', 'U', 'L', 'T', '_', 'I', 'N', 'F', 'O'], .faultInfo),
   (['A', '0'], .a0), (['A', '1'], .a1), (['A', '2'], .a2), (['A', '3'], .a3), (['R', 'E', 'S'], .res),
   (['P', 'H', 'A', 'S', 'E'], .phase), (['S', 'L', 'O', 'T', '_', 'N', 'E', 'W'], .slotNew),
   (['S', 'L', 'O', 'T', '_', 'P', 'R', 'E', 'V'], .slotPrev), (['G', '0'], .g0), (['G', '1'], .g1)]

/-- The value a name is listed with. -/
def named {α : Type} (table : List (List Char × α)) (name : List Char) : Option α :=
  (table.find? fun row => row.1 == name).map (·.2)

/-! ### Values: decimal, `0x` hexadecimal, negative decimal -/

/-- A decimal digit. -/
def decimalDigit (c : Char) : Option Nat :=
  if 48 ≤ c.toNat ∧ c.toNat ≤ 57 then some (c.toNat - 48) else none

/-- A hexadecimal digit, of either case. -/
def hexDigit (c : Char) : Option Nat :=
  if 65 ≤ c.toNat ∧ c.toNat ≤ 70 then some (c.toNat - 55)
  else if 97 ≤ c.toNat ∧ c.toNat ≤ 102 then some (c.toNat - 87)
  else decimalDigit c

/-- A numeral of one digit or more in a base. -/
def numeral (base : Nat) (digit : Char → Option Nat) : List Char → Option Nat
  | [] => none
  | cs => cs.foldl (fun acc c => (acc.bind fun n => (digit c).map fun d => base * n + d)) (some 0)

/-- A value as its 32-bit pattern; one that has none is no value (log entry 24). -/
def scriptValue (cs : List Char) : Option Word :=
  match cs with
  | '-' :: ds => (numeral 10 decimalDigit ds).bind fun n =>
      if n ≤ 2147483648 then some (BitVec.ofInt 32 (-(n : Int))) else none
  | '0' :: 'x' :: ds => (numeral 16 hexDigit ds).bind fun n =>
      if n < 4294967296 then some (BitVec.ofNat 32 n) else none
  | ds => (numeral 10 decimalDigit ds).bind fun n =>
      if n < 4294967296 then some (BitVec.ofNat 32 n) else none

/-- A register's name; `V3` stands for `V[3]`. -/
def scriptRegister (cs : List Char) : Option HostReg :=
  match cs with
  | 'V' :: ds => (numeral 10 decimalDigit ds).bind fun n => if h : n < 16 then some (.v ⟨n, h⟩) else none
  | name => named registerNames name

/-! ### Lines -/

/-- Blanks. -/
def isBlank (c : Char) : Bool := c == ' ' || c == '\t'

/-- Text without the blanks at its ends. -/
def trim (cs : List Char) : List Char := ((cs.dropWhile isBlank).reverse.dropWhile isBlank).reverse

/-- Text cut at each comma. -/
def fieldsFrom (field : List Char) : List Char → List (List Char)
  | [] => [field.reverse]
  | c :: rest => if c == ',' then field.reverse :: fieldsFrom [] rest else fieldsFrom (c :: field) rest

/-- The comma-separated fields of a text, none if it is empty. -/
def fields (cs : List Char) : List (List Char) := if cs.isEmpty then [] else (fieldsFrom [] cs).map trim

/-- Every value of a list of fields. -/
def scriptValues : List (List Char) → Option (List Word)
  | [] => some []
  | f :: rest => (scriptValue f).bind fun v => (scriptValues rest).map fun vs => v :: vs

/-- A line of a script (rule R75); none where the text is no line. A comment starts with `;`. -/
def scriptLine (text : List Char) : Option ScriptLine :=
  let line := trim (text.takeWhile (· != ';'))
  let word := line.takeWhile (fun c => !isBlank c)
  let args := fields (trim (line.dropWhile (fun c => !isBlank c)))
  if line.isEmpty then some .nothing
  else if word == ['w', 'r'] then
    match args with
    | [r, v] => (scriptRegister r).bind fun r => (scriptValue v).map fun v => .wr r v
    | _ => none
  else if word == ['r', 'd'] then
    match args with
    | [r] => (scriptRegister r).map .rd
    | _ => none
  else
    (named mnemonics word).bind fun i =>
      if args.length ≤ 4 then (scriptValues args).map (.command i) else none

/-- The host accesses of a script, line by line; none where a line is no line. -/
def scriptAccesses : List (List Char) → Option (List HostAccess)
  | [] => some []
  | line :: rest => (scriptLine line).bind fun l => (scriptAccesses rest).map fun as => l.accesses ++ as

end Sys2Proof.Machine
end

