-- ==== Sys2Proof/Safety.lean ====
section
/-! DEFINITION. The words claims are made in: the invariant of a state, a state with a fault recorded, a pending access, the
width operators of 00_scope.md rule R13 on integers, and the closed forms of the transform's stores (43_synthesis.md rules
R106 and R109), written from those tables. -/

namespace Sys2Proof.Machine

/-- `int32(v)` (rule R13). -/
def int32 (v : Int) : Int := (v + 2147483648) % 4294967296 - 2147483648

/-- `int16(v)` (rule R13). -/
def int16 (v : Int) : Int := (v + 32768) % 65536 - 32768

/-- What holds whenever the host can observe the machine: the workspace and external memory in canonical form and inside
their spaces (20_memory.md rules R48, R49), the frame driver idle with its counts in range (10_state.md rule R31), and a
fault recorded exactly when one has happened (rules R24 to R26; 60_exceptions.md rules R145, R146). -/
abbrev State.Inv (s : State) : Prop :=
  s.ws.wf = true ∧ s.ws.below 4096 = true ∧ s.ext.wf = true ∧ s.ext.below s.extSize = true ∧
  s.fsm = .idle ∧ s.sb ≤ 3 ∧ s.grp ≤ 6 ∧
  (s.faulted = true ↔ s.cause ≠ .none) ∧ (s.cause = .none → s.info = 0) ∧ (s.faulted = true → s.lastOk = false)

/-- The state with a fault recorded and nothing else changed (60_exceptions.md rules R144, R145). -/
def State.faultedWith (s : State) (c : Cause) (info : Word) : State :=
  { s with faulted := true, lastOk := false, cause := c, info := info }

/-- The state with one more access pending, ahead of `rest`. -/
def State.pending (s : State) (a : HostAccess) (rest : List HostAccess) : State := { s with host := a :: rest }

/-- The state with `rest` pending. -/
def State.withHost (s : State) (rest : List HostAccess) : State := { s with host := rest }

/-- The values the transform stores, by position: rule R106 from the even pass's butterfly output b, rule R109 from the odd
pass's output d (the rule's c). -/
def historyTable (N P : Nat) (b d : Lanes) : List (Nat × Word) :=
  let h0 := d[0].sshiftRight 1
  [(N + 0x000, b[1]),
   (N + 0x040, b[8] + b[9] + b[10] - b[14]),
   (N + 0x080, b[4] + b[5] - b[6]),
   (N + 0x0C0, b[12] + b[13] - b[8] - b[9] - b[10]),
   (N + 0x100, b[3] - b[2]),
   (N + 0x140, b[8] + b[9] + b[11] - b[12] - b[13]),
   (N + 0x180, b[7] - b[5] - b[4]),
   (N + 0x1C0, b[15] - b[11] - b[8] - b[9]),
   (P + 0x000, -b[1]),
   (P + 0x040, b[8] + b[10] - b[14]),
   (P + 0x080, b[4] - b[6]),
   (P + 0x0C0, b[12] - b[8] - b[10]),
   (P + 0x100, -b[2]),
   (P + 0x140, b[8] - b[12]),
   (P + 0x180, -b[4]),
   (P + 0x1C0, -b[8]),
   (P + 0x200, -b[0]),
   (N + 0x020, d[1] + d[2] + d[6] - d[14] + h0),
   (N + 0x060, d[8] + d[9] + d[10] - d[1] - d[2] - d[6] - h0),
   (N + 0x0A0, d[1] + d[2] + d[4] + d[5] - d[8] - d[9] - d[10] + h0),
   (N + 0x0E0, d[12] + d[13] - d[1] - d[2] - d[4] - d[5] - h0),
   (N + 0x120, d[1] + d[3] + d[4] + d[5] - d[12] - d[13] + h0),
   (N + 0x160, d[8] + d[9] + d[11] - d[1] - d[3] - d[4] - d[5] - h0),
   (N + 0x1A0, d[1] + d[3] + d[7] - d[8] - d[9] - d[11] + h0),
   (N + 0x1E0, d[15] - d[1] - d[3] - d[7] - h0),
   (P + 0x020, d[2] + d[6] - d[14] + h0),
   (P + 0x060, d[8] + d[10] - d[2] - d[6] - h0),
   (P + 0x0A0, d[2] + d[4] - d[8] - d[10] + h0),
   (P + 0x0E0, d[12] - d[2] - d[4] - h0),
   (P + 0x120, d[12] - d[4] - h0),
   (P + 0x160, d[8] - d[4] - h0),
   (P + 0x1A0, h0 - d[8]),
   (P + 0x1E0, -h0)]

/-- The even pass's writes in the order of rule R105, with the values of rule R106. -/
def evenOrder (N P : Nat) (b : Lanes) : List (Nat × Word) :=
  [(N + 0x000, b[1]),
   (P + 0x200, -b[0]),
   (P + 0x000, -b[1]),
   (P + 0x100, -b[2]),
   (N + 0x100, b[3] - b[2]),
   (P + 0x180, -b[4]),
   (N + 0x180, b[7] - b[5] - b[4]),
   (P + 0x080, b[4] - b[6]),
   (N + 0x080, b[4] + b[5] - b[6]),
   (N + 0x040, b[8] + b[9] + b[10] - b[14]),
   (N + 0x0C0, b[12] + b[13] - b[8] - b[9] - b[10]),
   (N + 0x140, b[8] + b[9] + b[11] - b[12] - b[13]),
   (N + 0x1C0, b[15] - b[11] - b[8] - b[9]),
   (P + 0x140, b[8] - b[12]),
   (P + 0x1C0, -b[8]),
   (P + 0x040, b[8] + b[10] - b[14]),
   (P + 0x0C0, b[12] - b[8] - b[10])]

/-- The odd pass's writes in the order of rule R108, with the values of rule R109. -/
def oddOrder (N P : Nat) (d : Lanes) : List (Nat × Word) :=
  let h0 := d[0].sshiftRight 1
  [(P + 0x1E0, -h0),
   (P + 0x120, d[12] - d[4] - h0),
   (P + 0x020, d[2] + d[6] - d[14] + h0),
   (N + 0x020, d[1] + d[2] + d[6] - d[14] + h0),
   (N + 0x1E0, d[15] - d[1] - d[3] - d[7] - h0),
   (P + 0x060, d[8] + d[10] - d[2] - d[6] - h0),
   (P + 0x0A0, d[2] + d[4] - d[8] - d[10] + h0),
   (P + 0x0E0, d[12] - d[2] - d[4] - h0),
   (P + 0x160, d[8] - d[4] - h0),
   (P + 0x1A0, h0 - d[8]),
   (N + 0x1A0, d[1] + d[3] + d[7] - d[8] - d[9] - d[11] + h0),
   (N + 0x060, d[8] + d[9] + d[10] - d[1] - d[2] - d[6] - h0),
   (N + 0x160, d[8] + d[9] + d[11] - d[1] - d[3] - d[4] - d[5] - h0),
   (N + 0x120, d[1] + d[3] + d[4] + d[5] - d[12] - d[13] + h0),
   (N + 0x0E0, d[12] + d[13] - d[1] - d[2] - d[4] - d[5] - h0),
   (N + 0x0A0, d[1] + d[2] + d[4] + d[5] - d[8] - d[9] - d[10] + h0)]

/-- A transform input sample as a 32-bit value (rule R103). -/
def State.input (s : State) (I k : Nat) : Word := (s.sample (I + 2 * k)).signExtend 32

/-- The even pass's input (rule R104), written from the rule. -/
def State.mirroredSums (s : State) (I : Nat) : Lanes :=
  Vector.ofFn fun i : Fin 16 => s.input I s.cfg.pairLo[i] + s.input I s.cfg.pairHi[i]

/-- The odd pass's input (rule R107), written from the rule. -/
def State.weightedDifferences (s : State) (I : Nat) : Lanes :=
  Vector.ofFn fun i : Fin 16 =>
    mulShift16 s.cfg.mulshMode (s.input I s.cfg.pairLo[i] - s.input I s.cfg.pairHi[i]) (s.cfg.oddW[i].setWidth 32)

/-- A window term as an integer (40_primitives.md rule R79, 44_window.md rule R113): history row r, column k, against table
entry i. -/
def State.windowTerm (s : State) (H r k i : Nat) : Int :=
  ((s.sample (H + 0x20 * r + 2 * k)).toInt * ((s.cfg.dewin[i]?).getD 0).toInt + 0x4000) / 32768

/-- The sum of a term for each of the columns listed. -/
def sumOver (ks : List Nat) (f : Nat → Int) : Int := (ks.map f).sum

/-- The 16 columns of a history row. -/
abbrev columns : List Nat := [0, 1, 2, 3, 4, 5, 6, 7, 8, 9, 10, 11, 12, 13, 14, 15]

/-- Output j of the 33 of a window call as an integer, before its 16-bit store (44_window.md rules R114, R115, R116),
written from the rules: p is the phase, H the slot's base. -/
def State.windowOutput (s : State) (p H j : Nat) : Int :=
  if j < 16 then sumOver columns fun k => s.windowTerm H j k (0x10 - p + 0x20 * j + k)
  else if j = 16 then
    sumOver
      (if (p % 2 = 1 ∧ s.cfg.xselOdd = .evenTaps) ∨ (p % 2 = 0 ∧ s.cfg.xselOdd = .oddTaps)
        then [0, 2, 4, 6, 8, 10, 12, 14] else [1, 3, 5, 7, 9, 11, 13, 15])
      fun k => s.windowTerm H 16 k (0x210 - p + k)
  else sumOver columns fun k => (-1) ^ k * s.windowTerm H (32 - j) k (0x22F - p + 0x20 * (j - 17) + k)

/-- A 16-bit store at an offset takes one workspace to the next: the sample there is the value, every other byte is as it
was (41_workspace_ops.md rule R87). -/
def StoresSample (e : Nat) (m m' : Memory) (a : Nat) (v : Half) : Prop :=
  sampleAt e m' a = v ∧ ∀ x, x ≠ a → x ≠ a + 1 → wsByteAt e m' x = wsByteAt e m x

/-- The phase a group works with (46_frame_driver.md rule R131). -/
def State.groupPhase (s : State) : BitVec 4 := if s.cfg.rotateFirst then s.phase - 1 else s.phase

/-- A slot register with its column replaced (46_frame_driver.md rule R132), written from the rule. -/
def slotAt (slot : Half) (p : BitVec 4) : Half := (slot &&& 0xFFE0#16) ||| BitVec.ofNat 16 (2 * p.toNat)

/-- GROUP's preconditions (46_frame_driver.md rule R134). -/
abbrev State.GroupOk (s : State) : Prop :=
  s.a0.toNat % 2 = 0 ∧ s.a1.toNat % 2 = 0 ∧ s.a0.toNat + 0x40 ≤ 4096 ∧ s.a1.toNat + 0x42 ≤ 4096 ∧
  (s.slotNew &&& 0xFFE0#16).toNat + 0x220 ≤ 4096 ∧ (s.slotPrev &&& 0xFFE0#16).toNat + 0x220 ≤ 4096

/-- What DECODE needs to run (46_frame_driver.md rule R126; 20_memory.md rules R54, R60; log entry 12). -/
abbrev State.DecodeOk (s : State) : Prop :=
  s.cfg.wellFormed = true ∧ s.cfg.layoutEven = true ∧ s.a1.toNat < 16 ∧ s.a0.toNat + 0x488 ≤ s.extSize

/-- A command with the operands the host writes to `A0`, `A1`, `A2` for it. -/
abbrev Issued := Instr × Word × Word × Word

/-- The commands one after another, each on the state the one before left, up to the first that stops the model. -/
def runAll : List Issued → State → Out
  | [], s => .next s
  | (i, a0, a1, a2) :: rest, s =>
    match exec i { s with a0 := a0, a1 := a1, a2 := a2 } with
    | .next t => runAll rest t
    | stop => stop

/-- Sub-block `sb` of a frame at `E` as commands (95_test_vectors.md program 5): the load, the six groups, the store. -/
def subBlockScript (c : Config) (E sb : Nat) : List Issued :=
  [(.bload, BitVec.ofNat 32 (E + 8 + 0x180 * sb), c.inOff.setWidth 32, 0x180)] ++
  (List.range 6).map (fun g =>
    (.group, BitVec.ofNat 32 (c.inOff.toNat + 0x40 * g), BitVec.ofNat 32 (c.outOff.toNat + 0x40 * g), 0)) ++
  [(.bstore, c.outOff.setWidth 32, BitVec.ofNat 32 (E + 0x180 * sb), 0x180)]

/-- Two regions share a byte (20_memory.md rule R60): the first of n bytes at a, the second of m bytes at b. -/
abbrev overlap (a n b m : Nat) : Prop := a < b + m ∧ b < a + n

end Sys2Proof.Machine
end

