-- ==== Sys2Proof/Certificates/Slice0/Obligations.lean ====
section
/-! DEFINITION. The statements for the provers. Each docstring names the rules of spec/ it is about. A statement about an
instruction that completes gives the next state as the state before it with the changed fields named, so that every other
field is unchanged. -/

open Sys2Proof Sys2Proof.Machine

/-! ### Encoding and issue -/

/-- Words written out from the opcode map (30_encoding.md rules R66, R71, R72), and four that are illegal. -/
def Obligations.DecodesSpecWords : Prop :=
  decode 0x01000000#32 = .ok .sat16 ∧ decode 0x11000000#32 = .ok .bstore ∧ decode 0x22000000#32 = .ok .window ∧
  decode 0x30000000#32 = .ok .group ∧ decode 0x31000000#32 = .ok .decode ∧
  decode 0x00000000#32 = .error .unassignedOp ∧ decode 0x05000000#32 = .error .unassignedOp ∧
  decode 0xFF000000#32 = .error .unassignedOp ∧ decode 0x01000001#32 = .error .reservedBits

/-- Decode and encode agree in both directions (rules R66, R67, R71, R73): a word decodes to a command exactly when it is
that command's word. -/
def Obligations.DecodeExactlyTheEncodings : Prop :=
  ∀ (w : Word) (i : Instr), decode w = .ok i ↔ w = encode i

/-- A step runs the decoded command (30_encoding.md rule R68): with a legal word pending at `CMD` and no fault recorded,
step is exec of that command with the write taken off the pending accesses. -/
def Obligations.StepRunsDecodedCommand : Prop :=
  ∀ (s : State) (w : Word) (i : Instr) (rest : List HostAccess),
    s.cfg.wellFormed = true → s.faulted = false → decode w = .ok i →
    step (s.pending (.write 0x00 w) rest) = exec i (s.withHost rest)

/-- An illegal word raises ILLEGAL_COMMAND with the word (rules R67, R72; 60_exceptions.md rules R142, R144). -/
def Obligations.IllegalWordRaisesFault : Prop :=
  ∀ (s : State) (w : Word) (rest : List HostAccess),
    s.cfg.wellFormed = true → s.faulted = false →
    (w.extractLsb' 0 24 ≠ 0#24 ∨
      w.extractLsb' 24 8 ∉ ([0x01, 0x02, 0x03, 0x04, 0x10, 0x11, 0x12, 0x13, 0x20, 0x21, 0x22, 0x23, 0x30, 0x31] : List (BitVec 8))) →
    step (s.pending (.write 0x00 w) rest) = .next ((s.withHost rest).faultedWith .illegalCommand w)

/-- The sticky fault (60_exceptions.md rule R146): while faulted, whatever the word, nothing changes but `LAST_OK`, and
register reads and writes still work. -/
def Obligations.FaultedRefusesEveryCommand : Prop :=
  ∀ (s : State) (rest : List HostAccess), s.cfg.wellFormed = true → s.faulted = true →
    (∀ w, step (s.pending (.write 0x00 w) rest) = .next { s.withHost rest with lastOk := false }) ∧
    (∀ off r d, regAt off = some r → r ≠ .cmd →
      step (s.pending (.write off d) rest) = .next ((s.withHost rest).writeReg r d)) ∧
    (∀ off r, regAt off = some r →
      step (s.pending (.read off) rest) = .next { s.withHost rest with rdata := s.readReg r })

/-! ### The host window -/

/-- Host writes (10_state.md rules R22, R27 to R30, R46): the registers keep the bits they have, read-only registers and
unmapped offsets ignore the write; nothing else changes. -/
def Obligations.HostWritesRegisters : Prop :=
  ∀ (s : State) (d : Word) (rest : List HostAccess), s.cfg.wellFormed = true →
    step (s.pending (.write 0x10 d) rest) = .next { s with host := rest, a0 := d } ∧
    step (s.pending (.write 0x14 d) rest) = .next { s with host := rest, a1 := d } ∧
    step (s.pending (.write 0x18 d) rest) = .next { s with host := rest, a2 := d } ∧
    step (s.pending (.write 0x1C d) rest) = .next { s with host := rest, a3 := d } ∧
    step (s.pending (.write 0x24 d) rest) = .next { s with host := rest, phase := BitVec.ofNat 4 (d.toNat % 16) } ∧
    step (s.pending (.write 0x28 d) rest) = .next { s with host := rest, slotNew := d.extractLsb' 0 16 } ∧
    step (s.pending (.write 0x2C d) rest) = .next { s with host := rest, slotPrev := d.extractLsb' 0 16 } ∧
    step (s.pending (.write 0x30 d) rest) = .next { s with host := rest, g0 := d.extractLsb' 0 16 } ∧
    step (s.pending (.write 0x34 d) rest) = .next { s with host := rest, g1 := d.extractLsb' 0 16 } ∧
    (∀ i : Fin 16, step (s.pending (.write (BitVec.ofNat 7 (0x40 + 4 * i)) d) rest) =
      .next { s with host := rest, v := s.v.set i d }) ∧
    (∀ off ∈ ([0x04, 0x08, 0x0C, 0x20, 0x38, 0x3C] : List (BitVec 7)),
      step (s.pending (.write off d) rest) = .next { s with host := rest })

/-- Host reads (10_state.md rules R21 to R30, R46): what each offset returns; a read changes nothing of the PSFB. -/
def Obligations.HostReadsRegisters : Prop :=
  ∀ (s : State) (rest : List HostAccess), s.cfg.wellFormed = true →
    step (s.pending (.read 0x00) rest) = .next { s with host := rest, rdata := 0 } ∧
    step (s.pending (.read 0x04) rest) = .next { s with
      host := rest, rdata := (if s.faulted then 1 else 0) + (if s.lastOk then 2 else 0) } ∧
    step (s.pending (.read 0x08) rest) = .next { s with
      host := rest
      rdata := match s.cause with
        | .none => 0
        | .illegalCommand => 1
        | .misaligned => 2
        | .wsRange => 3
        | .extRange => 4
        | .badPhase => 5 } ∧
    step (s.pending (.read 0x0C) rest) = .next { s with host := rest, rdata := s.info } ∧
    step (s.pending (.read 0x10) rest) = .next { s with host := rest, rdata := s.a0 } ∧
    step (s.pending (.read 0x14) rest) = .next { s with host := rest, rdata := s.a1 } ∧
    step (s.pending (.read 0x18) rest) = .next { s with host := rest, rdata := s.a2 } ∧
    step (s.pending (.read 0x1C) rest) = .next { s with host := rest, rdata := s.a3 } ∧
    step (s.pending (.read 0x20) rest) = .next { s with host := rest, rdata := s.res } ∧
    step (s.pending (.read 0x24) rest) = .next { s with host := rest, rdata := BitVec.ofNat 32 s.phase.toNat } ∧
    step (s.pending (.read 0x28) rest) = .next { s with host := rest, rdata := BitVec.ofNat 32 s.slotNew.toNat } ∧
    step (s.pending (.read 0x2C) rest) = .next { s with host := rest, rdata := BitVec.ofNat 32 s.slotPrev.toNat } ∧
    step (s.pending (.read 0x30) rest) = .next { s with host := rest, rdata := BitVec.ofInt 32 s.g0.toInt } ∧
    step (s.pending (.read 0x34) rest) = .next { s with host := rest, rdata := BitVec.ofInt 32 s.g1.toInt } ∧
    (∀ i : Fin 16, step (s.pending (.read (BitVec.ofNat 7 (0x40 + 4 * i))) rest) =
      .next { s with host := rest, rdata := s.v[i] }) ∧
    (∀ off ∈ ([0x38, 0x3C] : List (BitVec 7)), step (s.pending (.read off) rest) = .next { s with host := rest, rdata := 0 })

/-- Accesses that reach no register: of another width, which the PSFB does not accept (30_encoding.md rule R74), where what a
read returns is the model's free value (log entry 9); and at an offset that is no multiple of 4, which is no register's, so
that it reads 0 and ignores writes (10_state.md rule R46, log entry 9). They change nothing of the PSFB. -/
def Obligations.AccessesToNoRegister : Prop :=
  ∀ (s : State) (off : BitVec 7) (rest : List HostAccess), s.cfg.wellFormed = true →
    step (s.pending (.otherWidthWrite off) rest) = .next { s with host := rest } ∧
    (∃ d, step (s.pending (.otherWidthRead off) rest) = .next { s with host := rest, rdata := d, draws := s.draws + 1 }) ∧
    (off.toNat % 4 ≠ 0 →
      (∀ d, step (s.pending (.write off d) rest) = .next { s with host := rest }) ∧
      step (s.pending (.read off) rest) = .next { s with host := rest, rdata := 0 })

/-- The window lies at `HOST_BASE` (rule R74): an access at a platform address of the window is the access at its offset,
and a write elsewhere is none of the PSFB's. The spec gives `HOST_BASE` and platform addresses no width: that they have 32
bits, over which this statement ranges, is the model's choice (log entry 26). That offsets are computed without wrap, so that
a window has to end inside those addresses (the second premise), is the model's reading (log entry 10). -/
def Obligations.BusAccessThroughHostBase : Prop :=
  ∀ (s : State) (rest : List HostAccess), s.cfg.wellFormed = true → s.cfg.hostBase.toNat + 0x80 ≤ 4294967296 →
    (∀ (off : BitVec 7) (d : Word),
      step (s.pending (.busWrite (BitVec.ofNat 32 (s.cfg.hostBase.toNat + off.toNat)) d) rest) =
        step (s.pending (.write off d) rest) ∧
      step (s.pending (.busRead (BitVec.ofNat 32 (s.cfg.hostBase.toNat + off.toNat))) rest) =
        step (s.pending (.read off) rest)) ∧
    (∀ addr d : Word, (addr.toNat < s.cfg.hostBase.toNat ∨ s.cfg.hostBase.toNat + 0x80 ≤ addr.toNat) →
      step (s.pending (.busWrite addr d) rest) = .next { s with host := rest })

/-- A bus read outside the window (rule R74) changes nothing of the PSFB; what it returns is the model's free value (log
entry 9). The addresses have the model's 32 bits (log entry 26), and the window ends inside them (log entry 10). -/
def Obligations.BusReadOutsideWindow : Prop :=
  ∀ (s : State) (rest : List HostAccess) (addr : Word),
    s.cfg.wellFormed = true → s.cfg.hostBase.toNat + 0x80 ≤ 4294967296 →
    (addr.toNat < s.cfg.hostBase.toNat ∨ s.cfg.hostBase.toNat + 0x80 ≤ addr.toNat) →
    ∃ d, step (s.pending (.busRead addr) rest) = .next { s with host := rest, rdata := d, draws := s.draws + 1 }

/-- The host's own writes of external memory (10_state.md rule R20; 20_memory.md rule R48): the byte it names and no other
changes; an address that does not exist stops the model (log entry 13). -/
def Obligations.HostWritesExternalMemory : Prop :=
  ∀ (s : State) (addr : Word) (b : Byte) (rest : List HostAccess), s.cfg.wellFormed = true →
    if addr.toNat < s.extSize then
      ∃ m, step (s.pending (.extWrite addr b) rest) = .next { s with host := rest, ext := m } ∧
        ∀ x, extByteAt m x = if x = addr.toNat then b else s.extByte x
    else step (s.pending (.extWrite addr b) rest) = .fault (.extAbsent addr)

/-- With nothing pending the machine holds all of its state (70_reset_and_hazards.md rule R163). -/
def Obligations.IdleHoldsAllState : Prop :=
  ∀ s : State, s.cfg.wellFormed = true → s.host = [] → step s = .next s

/-- A configuration that breaks the layout constraints is refused, not run (20_memory.md rule R60): a slot not at a multiple
of 0x20, a region outside the workspace, or any two of the five regions overlapping. -/
def Obligations.BrokenLayoutIsRefused : Prop :=
  ∀ s : State,
    (s.cfg.slotA.toNat % 0x20 ≠ 0 ∨ s.cfg.slotB.toNat % 0x20 ≠ 0 ∨
      s.cfg.slotA.toNat + 0x220 > 4096 ∨ s.cfg.slotB.toNat + 0x220 > 4096 ∨ s.cfg.hdrOff.toNat + 8 > 4096 ∨
      s.cfg.inOff.toNat + 0x180 > 4096 ∨ s.cfg.outOff.toNat + 0x182 > 4096 ∨
      overlap s.cfg.slotA.toNat 0x220 s.cfg.slotB.toNat 0x220 ∨
      overlap s.cfg.slotA.toNat 0x220 s.cfg.hdrOff.toNat 8 ∨
      overlap s.cfg.slotA.toNat 0x220 s.cfg.inOff.toNat 0x180 ∨
      overlap s.cfg.slotA.toNat 0x220 s.cfg.outOff.toNat 0x182 ∨
      overlap s.cfg.slotB.toNat 0x220 s.cfg.hdrOff.toNat 8 ∨
      overlap s.cfg.slotB.toNat 0x220 s.cfg.inOff.toNat 0x180 ∨
      overlap s.cfg.slotB.toNat 0x220 s.cfg.outOff.toNat 0x182 ∨
      overlap s.cfg.hdrOff.toNat 8 s.cfg.inOff.toNat 0x180 ∨
      overlap s.cfg.hdrOff.toNat 8 s.cfg.outOff.toNat 0x182 ∨
      overlap s.cfg.inOff.toNat 0x180 s.cfg.outOff.toNat 0x182) →
    step s = .refused .badConfig

/-- Script lines (30_encoding.md rules R75, R76): the rule's example is read as that command, and a command line stands for
the writes of the operands given, in order, then the write of its word to `CMD`. -/
def Obligations.ScriptLinesExpand : Prop :=
  scriptLine ("MULSH 3, 65536".toList) = some (.command .mulsh [3, 65536]) ∧
  scriptLine ("wr V3, 0x1F ; a lane".toList) = some (.wr (.v 3) 31) ∧
  ∀ (i : Instr) (a b c d : Word),
    (ScriptLine.command i []).accesses = [.write 0x00 (encode i)] ∧
    (ScriptLine.command i [a]).accesses = [.write 0x10 a, .write 0x00 (encode i)] ∧
    (ScriptLine.command i [a, b]).accesses = [.write 0x10 a, .write 0x14 b, .write 0x00 (encode i)] ∧
    (ScriptLine.command i [a, b, c]).accesses =
      [.write 0x10 a, .write 0x14 b, .write 0x18 c, .write 0x00 (encode i)] ∧
    (ScriptLine.command i [a, b, c, d]).accesses =
      [.write 0x10 a, .write 0x14 b, .write 0x18 c, .write 0x1C d, .write 0x00 (encode i)]

/-! ### Reset -/

/-- The state right after power-on (10_state.md rule R45): the values the spec gives. -/
def Obligations.ResetValues : Prop :=
  State.reset.statusWord = 0 ∧ State.reset.causeWord = 0 ∧ State.reset.info = 0 ∧
  State.reset.a0 = 0 ∧ State.reset.a1 = 0 ∧ State.reset.a2 = 0 ∧ State.reset.a3 = 0 ∧ State.reset.res = 0 ∧
  State.reset.phase = 0 ∧ State.reset.slotNew = State.reset.cfg.slotA ∧ State.reset.slotPrev = State.reset.cfg.slotB ∧
  State.reset.g0 = 0 ∧ State.reset.g1 = 0 ∧
  State.reset.fsm = .idle ∧ State.reset.sb = 0 ∧ State.reset.grp = 0

/-- The reset input (70_reset_and_hazards.md rule R154), in any state, faulted or not: the registers take the values of
rule R45; external memory and the configuration are untouched. -/
def Obligations.ResetInputClearsState : Prop :=
  ∀ (s : State) (rest : List HostAccess), s.cfg.wellFormed = true →
    ∃ t, step (s.pending .reset rest) = .next t ∧
      t.faulted = false ∧ t.lastOk = false ∧ t.cause = .none ∧ t.info = 0 ∧
      t.a0 = 0 ∧ t.a1 = 0 ∧ t.a2 = 0 ∧ t.a3 = 0 ∧ t.res = 0 ∧ t.phase = 0 ∧
      t.slotNew = s.cfg.slotA ∧ t.slotPrev = s.cfg.slotB ∧ t.g0 = 0 ∧ t.g1 = 0 ∧
      t.fsm = .idle ∧ t.sb = 0 ∧ t.grp = 0 ∧ t.ext = s.ext ∧ t.cfg = s.cfg ∧ t.host = rest

/-! ### Primitive commands -/

/-- SAT16 (40_primitives.md rules R77, R81): in every state it completes, `RES` is A0 clamped to [-32768, 32767], and
nothing else but `LAST_OK` changes. -/
def Obligations.Sat16Clamps : Prop :=
  encode .sat16 = 0x01000000#32 ∧
  ∀ s : State, ∃ r : Word, exec .sat16 s = .next { s with res := r, lastOk := true } ∧
    r.toInt = if s.a0.toInt > 32767 then 32767 else if s.a0.toInt < -32768 then -32768 else s.a0.toInt

/-- MULSH (rules R78, R82): in every state it completes; the result under each `MULSH_MODE`. -/
def Obligations.MulshFloorsTheProduct : Prop :=
  encode .mulsh = 0x02000000#32 ∧
  ∀ s : State, ∃ r : Word, exec .mulsh s = .next { s with res := r, lastOk := true } ∧
    (s.cfg.mulshMode = .exact → r.toInt = int32 (s.a0.toInt * s.a1.toInt / 65536)) ∧
    (s.cfg.mulshMode = .wrap32 → r.toInt = int32 (s.a0.toInt * s.a1.toInt) / 65536)

/-- MULSH's weights of 0 and 65536 (rule R82), and the range in which the two modes agree (rule R78). -/
def Obligations.MulshIdentityAndAgreement : Prop :=
  ∀ s : State, ∃ r : Word, exec .mulsh s = .next { s with res := r, lastOk := true } ∧
    (s.a1 = 0 → r = 0) ∧
    (s.cfg.mulshMode = .exact → s.a1 = 65536 → r = s.a0) ∧
    (-2147483648 ≤ s.a0.toInt * s.a1.toInt → s.a0.toInt * s.a1.toInt < 2147483648 →
      r.toInt = s.a0.toInt * s.a1.toInt / 65536)

/-- RDOT (rules R79, R83): in every state it completes; the result is the nearest integer to x*y/32768, a tie rounding up,
for the low halves x, y of A0, A1. -/
def Obligations.RdotRoundsToNearest : Prop :=
  encode .rdot = 0x03000000#32 ∧
  ∀ s : State, ∃ r : Word, exec .rdot s = .next { s with res := r, lastOk := true } ∧
    r.toInt = ((s.a0.extractLsb' 0 16).toInt * (s.a1.extractLsb' 0 16).toInt + 0x4000) / 32768 ∧
    32768 * r.toInt - 16384 ≤ (s.a0.extractLsb' 0 16).toInt * (s.a1.extractLsb' 0 16).toInt ∧
    (s.a0.extractLsb' 0 16).toInt * (s.a1.extractLsb' 0 16).toInt < 32768 * r.toInt + 16384 ∧
    -32768 ≤ r.toInt ∧ r.toInt ≤ 32768

/-- GMUL (rules R80, R84): in every state it completes; the result is the exact product of the low halves, clamped. -/
def Obligations.GmulSaturatesTheProduct : Prop :=
  encode .gmul = 0x04000000#32 ∧
  ∀ s : State, ∃ r : Word, exec .gmul s = .next { s with res := r, lastOk := true } ∧
    r.toInt = max (-32768) (min 32767 ((s.a0.extractLsb' 0 16).toInt * (s.a1.extractLsb' 0 16).toInt))

/-! ### Workspace commands -/

/-- BLOAD (41_workspace_ops.md rule R88): the faults in order, else the bytes copied and every other byte and register
unchanged. e = A0, o = A1, n = A2. -/
def Obligations.BloadCopiesOrFaults : Prop :=
  encode .bload = 0x10000000#32 ∧
  ∀ s : State, s.faulted = false →
    if s.a1.toNat + s.a2.toNat > 4096 then exec .bload s = .next (s.faultedWith .wsRange s.a1)
    else if s.a0.toNat + s.a2.toNat > s.extSize then exec .bload s = .next (s.faultedWith .extRange s.a0)
    else ∃ w, exec .bload s = .next { s with ws := w, lastOk := true } ∧
      ∀ x, wsByteAt s.epoch w x =
        if s.a1.toNat ≤ x ∧ x < s.a1.toNat + s.a2.toNat then s.extByte (s.a0.toNat + (x - s.a1.toNat)) else s.wsByte x

/-- BSTORE (rule R89): o = A0, e = A1, n = A2. -/
def Obligations.BstoreCopiesOrFaults : Prop :=
  encode .bstore = 0x11000000#32 ∧
  ∀ s : State, s.faulted = false →
    if s.a0.toNat + s.a2.toNat > 4096 then exec .bstore s = .next (s.faultedWith .wsRange s.a0)
    else if s.a1.toNat + s.a2.toNat > s.extSize then exec .bstore s = .next (s.faultedWith .extRange s.a1)
    else ∃ m, exec .bstore s = .next { s with ext := m, lastOk := true } ∧
      ∀ x, extByteAt m x =
        if s.a1.toNat ≤ x ∧ x < s.a1.toNat + s.a2.toNat then s.wsByte (s.a0.toNat + (x - s.a1.toNat)) else s.extByte x

/-- SRD (rules R86, R90): MISALIGNED, then WS_RANGE, else the big-endian sample, sign-extended. -/
def Obligations.SrdReadsSampleOrFaults : Prop :=
  encode .srd = 0x12000000#32 ∧
  ∀ s : State, s.faulted = false →
    if s.a0.toNat % 2 ≠ 0 then exec .srd s = .next (s.faultedWith .misaligned s.a0)
    else if s.a0.toNat + 2 > 4096 then exec .srd s = .next (s.faultedWith .wsRange s.a0)
    else ∃ r : Word, exec .srd s = .next { s with res := r, lastOk := true } ∧
      r.toInt = int16 (256 * (s.wsByte s.a0.toNat).toNat + (s.wsByte (s.a0.toNat + 1)).toNat)

/-- SWR (rules R87, R91): MISALIGNED, then WS_RANGE, else the two bytes of A1[15:0], high byte first, and every other byte
and register unchanged. -/
def Obligations.SwrWritesSampleOrFaults : Prop :=
  encode .swr = 0x13000000#32 ∧
  ∀ s : State, s.faulted = false →
    if s.a0.toNat % 2 ≠ 0 then exec .swr s = .next (s.faultedWith .misaligned s.a0)
    else if s.a0.toNat + 2 > 4096 then exec .swr s = .next (s.faultedWith .wsRange s.a0)
    else ∃ w, exec .swr s = .next { s with ws := w, lastOk := true } ∧
      ∀ x, wsByteAt s.epoch w x =
        if x = s.a0.toNat then s.a1.extractLsb' 8 8
        else if x = s.a0.toNat + 1 then s.a1.extractLsb' 0 8 else s.wsByte x

/-- SRD after SWR at the same offset returns int16 of the value written (rule R87), whatever the workspace held. -/
def Obligations.SrdAfterSwrReturnsValue : Prop :=
  ∀ s : State, s.a0.toNat % 2 = 0 → s.a0.toNat + 2 ≤ 4096 →
    ∃ t u, exec .swr s = .next t ∧ exec .srd t = .next u ∧ u.res.toInt = int16 s.a1.toNat ∧ u.ws = t.ws

/-! ### Butterfly -/

/-- The combine step (42_butterfly.md rule R92): lane i keeps the sum, lane j the weighted difference, both lanes being read
before either is written; no other lane changes. -/
def Obligations.CombineKeepsSumAndDifference : Prop :=
  ∀ (mode : MulshMode) (v : Lanes) (i j : Fin 16) (w : Word), i ≠ j →
    (combine mode v i j w)[i] = v[i] + v[j] ∧
    (combine mode v i j w)[j] = mulShift16 mode (v[i] - v[j]) w ∧
    ∀ k : Fin 16, k ≠ i → k ≠ j → (combine mode v i j w)[k] = v[k]

/-- The four stages and the correction, lane by lane (rules R93 to R98). -/
def Obligations.ButterflyStageLanes : Prop :=
  ∀ (c : Config) (v : Lanes),
    butterfly c v = correct (stage4 c (stage3 c (stage2 c (stage1 c v)))) ∧
    (∀ i (h : i < 8),
      (stage1 c v)[i] = v[i] + v[8 + i] ∧
      (stage1 c v)[8 + i] = mulShift16 c.mulshMode (v[i] - v[8 + i]) (c.w8[i].setWidth 32)) ∧
    (∀ i (h : i < 4),
      (stage2 c v)[i] = v[i] + v[4 + i] ∧
      (stage2 c v)[4 + i] = mulShift16 c.mulshMode (v[i] - v[4 + i]) (c.w4[i].setWidth 32) ∧
      (stage2 c v)[8 + i] = v[8 + i] + v[12 + i] ∧
      (stage2 c v)[12 + i] = mulShift16 c.mulshMode (v[8 + i] - v[12 + i]) (c.w4[i].setWidth 32)) ∧
    (∀ q (h : q < 4),
      (stage3 c v)[4 * q] = v[4 * q] + v[4 * q + 2] ∧
      (stage3 c v)[4 * q + 2] = mulShift16 c.mulshMode (v[4 * q] - v[4 * q + 2]) (c.w2[0].setWidth 32) ∧
      (stage3 c v)[4 * q + 1] = v[4 * q + 1] + v[4 * q + 3] ∧
      (stage3 c v)[4 * q + 3] = mulShift16 c.mulshMode (v[4 * q + 1] - v[4 * q + 3]) (c.w2[1].setWidth 32)) ∧
    (∀ j (h : j < 8),
      (stage4 c v)[2 * j] = v[2 * j] + v[2 * j + 1] ∧
      (stage4 c v)[2 * j + 1] =
        mulShift16 c.mulshMode (v[2 * j] - v[2 * j + 1]) (c.scale[c.scaleSel[j]].setWidth 32)) ∧
    (∀ k (h : k < 16), (correct v)[k] =
      if k = 6 ∨ k = 10 ∨ k = 12 then 2 * v[k] else if k = 14 then 4 * v[k] else v[k])

/-- BFLY (rule R99): in every state it completes and writes only V; lane 0 is the 32-bit sum of all lanes, whatever the
tables and the mode. -/
def Obligations.BflyWritesButterflyOfV : Prop :=
  encode .bfly = 0x20000000#32 ∧
  ∀ s : State, exec .bfly s = .next { s with v := butterfly s.cfg s.v, lastOk := true } ∧
    (butterfly s.cfg s.v)[0] =
      s.v[0] + s.v[1] + s.v[2] + s.v[3] + s.v[4] + s.v[5] + s.v[6] + s.v[7] +
      s.v[8] + s.v[9] + s.v[10] + s.v[11] + s.v[12] + s.v[13] + s.v[14] + s.v[15]

/-- An all-zero input gives an all-zero output (rule R100), for every table and mode. -/
def Obligations.BflyOfZeroIsZero : Prop :=
  ∀ s : State, s.v = Vector.replicate 16 0 → exec .bfly s = .next { s with lastOk := true }

/-! ### Synthesis transform -/

/-- SYNTH (43_synthesis.md rules R110, R111): the faults in order, else it completes, no register changes, and no byte
outside the 33 positions of the two slots changes. I = A0, N = A1, P = A2. -/
def Obligations.SynthFaultsOrWritesItsRows : Prop :=
  encode .synth = 0x21000000#32 ∧
  ∀ s : State, s.faulted = false →
    if s.a0.toNat % 2 ≠ 0 then exec .synth s = .next (s.faultedWith .misaligned s.a0)
    else if s.a1.toNat % 2 ≠ 0 then exec .synth s = .next (s.faultedWith .misaligned s.a1)
    else if s.a2.toNat % 2 ≠ 0 then exec .synth s = .next (s.faultedWith .misaligned s.a2)
    else if s.a0.toNat + 0x40 > 4096 then exec .synth s = .next (s.faultedWith .wsRange s.a0)
    else if s.a1.toNat + 0x1E2 > 4096 then exec .synth s = .next (s.faultedWith .wsRange s.a1)
    else if s.a2.toNat + 0x202 > 4096 then exec .synth s = .next (s.faultedWith .wsRange s.a2)
    else ∃ w, exec .synth s = .next { s with ws := w, lastOk := true } ∧
      ∀ x, (∀ r < 16, x ≠ s.a1.toNat + 0x20 * r ∧ x ≠ s.a1.toNat + 0x20 * r + 1) →
        (∀ r < 17, x ≠ s.a2.toNat + 0x20 * r ∧ x ≠ s.a2.toNat + 0x20 * r + 1) →
        wsByteAt s.epoch w x = s.wsByte x

/-- What SYNTH stores (rules R103 to R109): with the slots 0x220 or more apart and the input apart from both, every one of
the 33 positions holds the low 16 bits of its closed form. -/
def Obligations.SynthStoresClosedForms : Prop :=
  ∀ s : State,
    s.a0.toNat % 2 = 0 → s.a1.toNat % 2 = 0 → s.a2.toNat % 2 = 0 →
    s.a0.toNat + 0x40 ≤ 4096 → s.a1.toNat + 0x1E2 ≤ 4096 → s.a2.toNat + 0x202 ≤ 4096 →
    (s.a1.toNat + 0x220 ≤ s.a2.toNat ∨ s.a2.toNat + 0x220 ≤ s.a1.toNat) →
    (s.a0.toNat + 0x40 ≤ s.a1.toNat ∨ s.a1.toNat + 0x220 ≤ s.a0.toNat) →
    (s.a0.toNat + 0x40 ≤ s.a2.toNat ∨ s.a2.toNat + 0x220 ≤ s.a0.toNat) →
    ∃ w, exec .synth s = .next { s with ws := w, lastOk := true } ∧
      ∀ x ∈ historyTable s.a1.toNat s.a2.toNat
          (butterfly s.cfg (s.mirroredSums s.a0.toNat)) (butterfly s.cfg (s.weightedDifferences s.a0.toNat)),
        sampleAt s.epoch w x.1 = x.2.extractLsb' 0 16

/-- The order of SYNTH's accesses (rules R103, R105, R108, R112), wherever the input and the slots lie, overlapping or not:
the 33 stores one after another, the 17 of the even pass on the input as the command found it, then the 16 of the odd pass
on the input reloaded after the even pass's last store. -/
def Obligations.SynthWritesInOrder : Prop :=
  ∀ s : State,
    s.a0.toNat % 2 = 0 → s.a1.toNat % 2 = 0 → s.a2.toNat % 2 = 0 →
    s.a0.toNat + 0x40 ≤ 4096 → s.a1.toNat + 0x1E2 ≤ 4096 → s.a2.toNat + 0x202 ≤ 4096 →
    ∃ m : Nat → Memory, m 0 = s.ws ∧ exec .synth s = .next { s with ws := m 33, lastOk := true } ∧
      ∀ j x,
        (evenOrder s.a1.toNat s.a2.toNat (butterfly s.cfg (s.mirroredSums s.a0.toNat)) ++
          oddOrder s.a1.toNat s.a2.toNat
            (butterfly s.cfg (State.weightedDifferences { s with ws := m 17 } s.a0.toNat)))[j]? = some x →
        StoresSample s.epoch (m j) (m (j + 1)) x.1 (x.2.extractLsb' 0 16)

/-- Zero input writes 0 to every position (rule R112), wherever the input and the slots lie. -/
def Obligations.SynthOfZeroInputStoresZero : Prop :=
  ∀ s : State,
    s.a0.toNat % 2 = 0 → s.a1.toNat % 2 = 0 → s.a2.toNat % 2 = 0 →
    s.a0.toNat + 0x40 ≤ 4096 → s.a1.toNat + 0x1E2 ≤ 4096 → s.a2.toNat + 0x202 ≤ 4096 →
    (∀ k < 32, s.sample (s.a0.toNat + 2 * k) = 0) →
    ∃ w, exec .synth s = .next { s with ws := w, lastOk := true } ∧
      (∀ r < 16, sampleAt s.epoch w (s.a1.toNat + 0x20 * r) = 0) ∧
      (∀ r < 17, sampleAt s.epoch w (s.a2.toNat + 0x20 * r) = 0)

/-! ### Window -/

/-- WINDOW (44_window.md rules R117, R119, R120): the faults in order, else it completes, no register changes, and no byte
outside O to O + 0x41 changes. p = A0, N = A1, O = A2. -/
def Obligations.WindowFaultsOrWritesItsRange : Prop :=
  encode .window = 0x22000000#32 ∧
  ∀ s : State, s.faulted = false →
    if s.a0.toNat ≥ 16 then exec .window s = .next (s.faultedWith .badPhase s.a0)
    else if s.a2.toNat % 2 ≠ 0 then exec .window s = .next (s.faultedWith .misaligned s.a2)
    else if s.a1.toNat ≥ 0x10000 ∨ s.a1.toNat / 32 * 32 + 0x220 > 4096 then
      exec .window s = .next (s.faultedWith .wsRange s.a1)
    else if s.a2.toNat + 0x42 > 4096 then exec .window s = .next (s.faultedWith .wsRange s.a2)
    else ∃ w, exec .window s = .next { s with ws := w, lastOk := true } ∧
      ∀ x, (x < s.a2.toNat ∨ s.a2.toNat + 0x42 ≤ x) → wsByteAt s.epoch w x = s.wsByte x

/-- What WINDOW stores (rules R113 to R118): with the output apart from the 17 rows of the slot, each of the 33 outputs is
its sum of rounded products, truncated to 16 bits. -/
def Obligations.WindowStoresRoundedSums : Prop :=
  ∀ (s : State) (p H O : Nat), p = s.a0.toNat → H = s.a1.toNat / 32 * 32 → O = s.a2.toNat →
    p < 16 → O % 2 = 0 → s.a1.toNat < 0x10000 → H + 0x220 ≤ 4096 → O + 0x42 ≤ 4096 →
    (O + 0x42 ≤ H ∨ H + 0x220 ≤ O) →
    ∃ w, exec .window s = .next { s with ws := w, lastOk := true } ∧
      (∀ n < 16, (sampleAt s.epoch w (O + 2 * n)).toInt =
        int16 (sumOver columns fun k => s.windowTerm H n k (0x10 - p + 0x20 * n + k))) ∧
      (sampleAt s.epoch w (O + 0x20)).toInt =
        int16 (sumOver
          (if (p % 2 = 1 ∧ s.cfg.xselOdd = .evenTaps) ∨ (p % 2 = 0 ∧ s.cfg.xselOdd = .oddTaps)
            then [0, 2, 4, 6, 8, 10, 12, 14] else [1, 3, 5, 7, 9, 11, 13, 15])
          fun k => s.windowTerm H 16 k (0x210 - p + k)) ∧
      (∀ m < 16, (sampleAt s.epoch w (O + 0x22 + 2 * m)).toInt =
        int16 (sumOver columns fun k => (-1) ^ k * s.windowTerm H (15 - m) k (0x22F - p + 0x20 * m + k)))

/-- The order of WINDOW's accesses (rules R114 to R119), wherever the output lies, over the slot or not: the 33 outputs one
after another, each read from the workspace the one before left, then stored. -/
def Obligations.WindowWritesInOrder : Prop :=
  ∀ s : State, s.a0.toNat < 16 → s.a2.toNat % 2 = 0 → s.a1.toNat < 0x10000 →
    s.a1.toNat / 32 * 32 + 0x220 ≤ 4096 → s.a2.toNat + 0x42 ≤ 4096 →
    ∃ m : Nat → Memory, m 0 = s.ws ∧ exec .window s = .next { s with ws := m 33, lastOk := true } ∧
      ∀ j < 33, StoresSample s.epoch (m j) (m (j + 1)) (s.a2.toNat + 2 * j)
        (BitVec.ofInt 16 (State.windowOutput { s with ws := m j } s.a0.toNat (s.a1.toNat / 32 * 32) j))

/-- WINDOW ignores bits 4:0 of its slot operand (rules R113, R119): it makes the same workspace of operands that differ only
there. -/
def Obligations.WindowIgnoresSlotLowBits : Prop :=
  ∀ (s : State) (x : Word), x.toNat < 32 → s.a0.toNat < 16 → s.a2.toNat % 2 = 0 → s.a1.toNat < 0x10000 →
    s.a1.toNat / 32 * 32 + 0x220 ≤ 4096 → s.a2.toNat + 0x42 ≤ 4096 →
    ∃ w, exec .window s = .next { s with ws := w, lastOk := true } ∧
      exec .window { s with a1 := s.a1 ^^^ x } = .next { s with a1 := s.a1 ^^^ x, ws := w, lastOk := true }

/-! ### Gain -/

/-- GAIN (45_gain.md rules R121, R123): MISALIGNED, then WS_RANGE, else every sample of the range becomes its product with
A2[15:0], clamped, and every other byte and register is unchanged. o = A0, n = A1. -/
def Obligations.GainScalesItsSamples : Prop :=
  encode .gain = 0x23000000#32 ∧
  ∀ s : State, s.faulted = false →
    if s.a0.toNat % 2 ≠ 0 then exec .gain s = .next (s.faultedWith .misaligned s.a0)
    else if s.a0.toNat + 2 * s.a1.toNat > 4096 then exec .gain s = .next (s.faultedWith .wsRange s.a0)
    else ∃ w, exec .gain s = .next { s with ws := w, lastOk := true } ∧
      (∀ i < s.a1.toNat, (sampleAt s.epoch w (s.a0.toNat + 2 * i)).toInt =
        max (-32768) (min 32767 ((s.sample (s.a0.toNat + 2 * i)).toInt * (s.a2.extractLsb' 0 16).toInt))) ∧
      (∀ x, (x < s.a0.toNat ∨ s.a0.toNat + 2 * s.a1.toNat ≤ x) → wsByteAt s.epoch w x = s.wsByte x)

/-- A gain of 1 leaves every byte as it was (rule R123). -/
def Obligations.GainOfOneIsIdentity : Prop :=
  ∀ s : State, s.a0.toNat % 2 = 0 → s.a0.toNat + 2 * s.a1.toNat ≤ 4096 → s.a2.extractLsb' 0 16 = 1#16 →
    ∃ w, exec .gain s = .next { s with ws := w, lastOk := true } ∧ ∀ x, wsByteAt s.epoch w x = s.wsByte x

/-! ### Group -/

/-- GROUP (46_frame_driver.md rules R130 to R134): the faults in order, else it completes: the phase rotated, both slot
registers given the group's column and exchanged, the gains and every other register unchanged, and no byte of the
workspace outside the written history column and the output changed. I = A0, O = A1. -/
def Obligations.GroupFaultsOrRotatesAndSwaps : Prop :=
  encode .group = 0x30000000#32 ∧
  ∀ s : State, s.faulted = false →
    if s.a0.toNat % 2 ≠ 0 then exec .group s = .next (s.faultedWith .misaligned s.a0)
    else if s.a1.toNat % 2 ≠ 0 then exec .group s = .next (s.faultedWith .misaligned s.a1)
    else if s.a0.toNat + 0x40 > 4096 then exec .group s = .next (s.faultedWith .wsRange s.a0)
    else if s.a1.toNat + 0x42 > 4096 then exec .group s = .next (s.faultedWith .wsRange s.a1)
    else if (s.slotNew &&& 0xFFE0#16).toNat + 0x220 > 4096 then
      exec .group s = .next (s.faultedWith .wsRange (s.slotNew.setWidth 32))
    else if (s.slotPrev &&& 0xFFE0#16).toNat + 0x220 > 4096 then
      exec .group s = .next (s.faultedWith .wsRange (s.slotPrev.setWidth 32))
    else ∃ w, exec .group s = .next { s with
        ws := w
        phase := s.phase - 1
        slotNew := slotAt s.slotPrev s.groupPhase
        slotPrev := slotAt s.slotNew s.groupPhase
        lastOk := true } ∧
      ∀ x,
        (∀ r < 16, x ≠ (slotAt s.slotNew s.groupPhase).toNat + 0x20 * r ∧
          x ≠ (slotAt s.slotNew s.groupPhase).toNat + 0x20 * r + 1) →
        (∀ r < 17, x ≠ (slotAt s.slotPrev s.groupPhase).toNat + 0x20 * r ∧
          x ≠ (slotAt s.slotPrev s.groupPhase).toNat + 0x20 * r + 1) →
        (x < s.a1.toNat ∨ s.a1.toNat + 0x42 ≤ x) → wsByteAt s.epoch w x = s.wsByte x

/-- A GROUP is its commands (rule R130; 45_gain.md rule R122): SYNTH, WINDOW and two GAINs with the operands the rule gives
make the same workspace. -/
def Obligations.GroupIsItsCommands : Prop :=
  ∀ s : State, s.GroupOk →
    ∃ s1 s2 s3 s4 t,
      exec .synth { s with
        a1 := (slotAt s.slotNew s.groupPhase).setWidth 32, a2 := (slotAt s.slotPrev s.groupPhase).setWidth 32 } = .next s1 ∧
      exec .window { s1 with a0 := s.groupPhase.setWidth 32, a2 := s.a1 } = .next s2 ∧
      exec .gain { s2 with a0 := s.a1, a1 := 17, a2 := s.g0.setWidth 32 } = .next s3 ∧
      exec .gain { s3 with
        a0 := s.a1 + 0x22, a1 := 16
        a2 := if (s.groupPhase.toNat % 2 = 1 ∧ s.cfg.gselOdd = .g1) ∨ (s.groupPhase.toNat % 2 = 0 ∧ s.cfg.gselOdd = .g0)
          then s.g1.setWidth 32 else s.g0.setWidth 32 } = .next s4 ∧
      exec .group s = .next t ∧ t.ws = s4.ws

/-! ### Frame -/

/-- DECODE's faults (46_frame_driver.md rules R125, R126; 60_exceptions.md rules R143, R144), before anything changes:
BAD_PHASE, then MISALIGNED for a header, input or output region that starts at an odd offset (41_workspace_ops.md rule R86;
that it comes here, with the region's offset, is the model's reading, log entry 12), then EXT_RANGE; else it completes.
E = A0, p0 = A1. -/
def Obligations.DecodeFaultsInOrder : Prop :=
  encode .decode = 0x31000000#32 ∧
  ∀ s : State, s.faulted = false → s.cfg.wellFormed = true →
    if s.a1.toNat ≥ 16 then exec .decode s = .next (s.faultedWith .badPhase s.a1)
    else if s.cfg.hdrOff.toNat % 2 ≠ 0 then
      exec .decode s = .next (s.faultedWith .misaligned (s.cfg.hdrOff.setWidth 32))
    else if s.cfg.inOff.toNat % 2 ≠ 0 then exec .decode s = .next (s.faultedWith .misaligned (s.cfg.inOff.setWidth 32))
    else if s.cfg.outOff.toNat % 2 ≠ 0 then exec .decode s = .next (s.faultedWith .misaligned (s.cfg.outOff.setWidth 32))
    else if s.a0.toNat + 0x488 > s.extSize then exec .decode s = .next (s.faultedWith .extRange s.a0)
    else ∃ t, exec .decode s = .next t ∧ t.faulted = false ∧ t.lastOk = true

/-- The registers after a DECODE (rule R138, items 1 to 3): the phase two below the initial one, the slots back at A and B
with the last group's column, the header's gains; everything else but the memories and the frame driver's counts and
cursors is unchanged, and the frame driver is idle. -/
def Obligations.DecodeFinalRegisters : Prop :=
  ∀ s : State, s.DecodeOk →
    ∃ t, exec .decode s = .next t ∧
      t.phase = BitVec.ofNat 4 s.a1.toNat - 2 ∧
      t.slotNew = slotAt s.cfg.slotA (BitVec.ofNat 4 s.a1.toNat - (if s.cfg.rotateFirst then 2 else 1)) ∧
      t.slotPrev = slotAt s.cfg.slotB (BitVec.ofNat 4 s.a1.toNat - (if s.cfg.rotateFirst then 2 else 1)) ∧
      t.g0 = s.extByte s.a0.toNat ++ s.extByte (s.a0.toNat + 1) ∧
      t.g1 = s.extByte (s.a0.toNat + 4) ++ s.extByte (s.a0.toNat + 5) ∧
      t.a0 = s.a0 ∧ t.a1 = s.a1 ∧ t.a2 = s.a2 ∧ t.a3 = s.a3 ∧ t.res = s.res ∧ t.v = s.v ∧
      t.faulted = s.faulted ∧ t.lastOk = true ∧ t.cause = s.cause ∧ t.info = s.info ∧ t.fsm = .idle ∧
      t.cfg = s.cfg ∧ t.host = s.host ∧ t.rdata = s.rdata ∧ t.epoch = s.epoch ∧ t.draws = s.draws

/-- A DECODE's footprint (rule R137, item 1; 20_memory.md rule R59): outside E to E + 0x47F no external byte changes, and
outside the five regions no workspace byte changes. -/
def Obligations.DecodeFootprint : Prop :=
  ∀ s : State, s.DecodeOk →
    ∃ t, exec .decode s = .next t ∧
      (∀ x, (x < s.a0.toNat ∨ s.a0.toNat + 0x480 ≤ x) → t.extByte x = s.extByte x) ∧
      (∀ x,
        (x < s.cfg.slotA.toNat ∨ s.cfg.slotA.toNat + 0x220 ≤ x) →
        (x < s.cfg.slotB.toNat ∨ s.cfg.slotB.toNat + 0x220 ≤ x) →
        (x < s.cfg.hdrOff.toNat ∨ s.cfg.hdrOff.toNat + 8 ≤ x) →
        (x < s.cfg.inOff.toNat ∨ s.cfg.inOff.toNat + 0x180 ≤ x) →
        (x < s.cfg.outOff.toNat ∨ s.cfg.outOff.toNat + 0x182 ≤ x) →
        t.wsByte x = s.wsByte x)

/-- What a DECODE leaves in the workspace (rule R138, item 4): the header, sub-block 2's input, and sub-block 2's output,
which is the last third of the frame's output. -/
def Obligations.DecodeLeavesWorkspace : Prop :=
  ∀ s : State, s.DecodeOk →
    ∃ t, exec .decode s = .next t ∧
      (∀ k < 8, t.wsByte (s.cfg.hdrOff.toNat + k) = s.extByte (s.a0.toNat + k)) ∧
      (∀ k < 0x180, t.wsByte (s.cfg.inOff.toNat + k) = s.extByte (s.a0.toNat + 0x308 + k)) ∧
      (∀ k < 0x180, t.wsByte (s.cfg.outOff.toNat + k) = t.extByte (s.a0.toNat + 0x300 + k))

/-- DECODE is the walk of its state machine (rules R124, R125): 29 transitions from HeaderRead, ending idle. -/
def Obligations.DecodeIsTheWalk : Prop :=
  ∀ s : State, s.DecodeOk →
    exec .decode s = .next { State.fsmWalk s.a0 29 (s.decodeInit s.a0 s.a1) with lastOk := true } ∧
    (State.fsmWalk s.a0 29 (s.decodeInit s.a0 s.a1)).fsm = .idle ∧
    ∀ n < 29, (State.fsmWalk s.a0 n (s.decodeInit s.a0 s.a1)).fsm ≠ .idle

/-- DECODE is its commands (rules R127 to R135; 95_test_vectors.md program 5): the phase and the slot registers set, BLOAD of
the header, the gains from it, then three times BLOAD of a sub-block, GROUP at `IN_OFF + 0x40g` and `OUT_OFF + 0x40g` for
g = 0 to 5, and BSTORE. They complete, and leave the memories, the phase, the slot registers and the gains of the DECODE. -/
def Obligations.DecodeIsItsCommands : Prop :=
  ∀ s : State, s.DecodeOk → s.faulted = false →
    ∃ h t u,
      exec .bload { s with
        phase := BitVec.ofNat 4 s.a1.toNat
        slotNew := s.cfg.slotA
        slotPrev := s.cfg.slotB
        a1 := s.cfg.hdrOff.setWidth 32
        a2 := 8 } = .next h ∧
      runAll
        (subBlockScript s.cfg s.a0.toNat 0 ++ subBlockScript s.cfg s.a0.toNat 1 ++ subBlockScript s.cfg s.a0.toNat 2)
        { h with g0 := h.sample s.cfg.hdrOff.toNat, g1 := h.sample (s.cfg.hdrOff.toNat + 4) } = .next t ∧
      t.faulted = false ∧
      exec .decode s = .next u ∧ u.ws = t.ws ∧ u.ext = t.ext ∧ u.phase = t.phase ∧ u.slotNew = t.slotNew ∧
      u.slotPrev = t.slotPrev ∧ u.g0 = t.g0 ∧ u.g1 = t.g1

/-- A frame whose two header gains are 0 decodes to zeros, whatever the history slots hold
(70_reset_and_hazards.md rule R155; 45_gain.md rule R122). -/
def Obligations.DecodeOfZeroGainsIsSilent : Prop :=
  ∀ s : State, s.DecodeOk →
    s.extByte s.a0.toNat = 0 → s.extByte (s.a0.toNat + 1) = 0 →
    s.extByte (s.a0.toNat + 4) = 0 → s.extByte (s.a0.toNat + 5) = 0 →
    ∃ t, exec .decode s = .next t ∧
      ∀ x, s.a0.toNat ≤ x → x < s.a0.toNat + 0x480 → t.extByte x = 0

/-- What a DECODE's output depends on (rule R138, item 4; 95_test_vectors.md P-IDEM): two machines of one configuration that
agree on the frame's 0x488 bytes, the operands and the contents of the two slots write the same output, whatever else they
hold. -/
def Obligations.DecodeOutputFromFrameAndSlots : Prop :=
  ∀ s u : State, s.DecodeOk → u.cfg = s.cfg → u.a0 = s.a0 → u.a1 = s.a1 →
    (∀ x, s.a0.toNat ≤ x → x < s.a0.toNat + 0x488 → u.extByte x = s.extByte x) →
    (∀ x, s.cfg.slotA.toNat ≤ x → x < s.cfg.slotA.toNat + 0x220 → u.wsByte x = s.wsByte x) →
    (∀ x, s.cfg.slotB.toNat ≤ x → x < s.cfg.slotB.toNat + 0x220 → u.wsByte x = s.wsByte x) →
    ∃ t r, exec .decode s = .next t ∧ exec .decode u = .next r ∧
      ∀ x, s.a0.toNat ≤ x → x < s.a0.toNat + 0x480 → r.extByte x = t.extByte x

/-! ### The whole machine -/

/-- Every step keeps the invariant (State.Inv): the memories' form, the frame driver idle, the fault record. -/
def Obligations.StepKeepsInvariant : Prop :=
  ∀ s t : State, s.Inv → step s = .next t → t.Inv

/-- The invariant holds at reset. -/
def Obligations.ResetMeetsInvariant : Prop := State.reset.Inv

/-- Faults are precise (60_exceptions.md rule R144): a command that faults changes nothing but `STATUS`, `FAULT_CAUSE` and
`FAULT_INFO`. -/
def Obligations.FaultsArePrecise : Prop :=
  ∀ (i : Instr) (s t : State), s.faulted = false → exec i s = .next t → t.faulted = true →
    t = s.faultedWith t.cause t.info ∧ t.cause ≠ .none ∧ t.cause ≠ .illegalCommand

/-- Only reset leaves the faulted state (rules R145, R147): any other access keeps the fault and the first fault's record. -/
def Obligations.FaultStaysUntilReset : Prop :=
  ∀ s t : State, s.faulted = true → s.host.head? ≠ some .reset → step s = .next t →
    t.faulted = true ∧ t.cause = s.cause ∧ t.info = s.info

/-- `LAST_OK` reports the command (10_state.md rule R24; 30_encoding.md rule R68): 1 exactly when it did not fault. -/
def Obligations.LastOkReportsCompletion : Prop :=
  ∀ (i : Instr) (s t : State), s.faulted = false → exec i s = .next t → t.lastOk = !t.faulted

/-- No command writes `A0`..`A3` (10_state.md rule R22), the configuration (rule R36), the pending accesses, or the model's own
fields `rdata`, `epoch` and `draws` (log entries 4, 7, 9, 11). External memory, which is the host's too, BSTORE and DECODE do
write: Obligations.OnlyNamedCommandsWrite. -/
def Obligations.CommandsKeepOperandRegisters : Prop :=
  ∀ (i : Instr) (s t : State), exec i s = .next t →
    t.a0 = s.a0 ∧ t.a1 = s.a1 ∧ t.a2 = s.a2 ∧ t.a3 = s.a3 ∧ t.cfg = s.cfg ∧ t.host = s.host ∧ t.rdata = s.rdata ∧
    t.epoch = s.epoch ∧ t.draws = s.draws

/-- Who writes what (10_state.md rules R23, R29, R30; 30_encoding.md rule R69): `RES` only the five scalar commands, `V` only
BFLY, the gains only DECODE, the phase and the slot registers only GROUP and DECODE, external memory only BSTORE and DECODE
(20_memory.md rule R48). -/
def Obligations.OnlyNamedCommandsWrite : Prop :=
  ∀ (i : Instr) (s t : State), exec i s = .next t →
    (i ∉ [Instr.sat16, .mulsh, .rdot, .gmul, .srd] → t.res = s.res) ∧
    (i ≠ .bfly → t.v = s.v) ∧
    (i ≠ .decode → t.g0 = s.g0 ∧ t.g1 = s.g1) ∧
    (i ≠ .group → i ≠ .decode → t.phase = s.phase ∧ t.slotNew = s.slotNew ∧ t.slotPrev = s.slotPrev) ∧
    (i ≠ .bstore → i ≠ .decode → t.ext = s.ext)

/-- The configuration and the coefficient tables never change (10_state.md rule R36; 70_reset_and_hazards.md rule R154). -/
def Obligations.ConfigurationNeverChanges : Prop :=
  ∀ s t : State, step s = .next t → t.cfg = s.cfg
end

