-- ==== Sys2Proof/Laws/Memory.lean ====
section
/-! SUPPORT. What the operations of Machine/Ops.lean over the two memories do: what a read gives after a write, and that
every write keeps the canonical form. -/

namespace Sys2Proof.Machine

variable {m : Memory} {a c : Nat} {b : Byte}

/-! ### One byte of a list -/

@[simp] theorem Memory.get?_set_self (m : Memory) (a : Nat) (b : Byte) : (m.set a b).get? a = some b := by
  induction m with
  | nil => simp [Memory.set, Memory.get?]
  | cons x rest ih =>
    obtain ⟨k, v⟩ := x
    rcases lt_trichotomy a k with h | h | h
    · simp [Memory.set, Memory.get?, h]
    · simp [Memory.set, Memory.get?, h]
    · simp [Memory.set, Memory.get?, ih, h.not_gt, h.ne']

theorem Memory.get?_set_of_ne (m : Memory) (h : c ≠ a) (b : Byte) : (m.set a b).get? c = m.get? c := by
  induction m with
  | nil => simp [Memory.set, Memory.get?, h]
  | cons x rest ih =>
    obtain ⟨k, v⟩ := x
    rcases lt_trichotomy a k with h1 | h1 | h1
    · rcases lt_or_gt_of_ne h with h2 | h2
      · simp [Memory.set, Memory.get?, h1, h2, h2.trans h1]
      · simp [Memory.set, Memory.get?, h1, h2.not_gt, h]
    · subst h1
      simp [Memory.set, Memory.get?, h]
    · simp [Memory.set, Memory.get?, ih, h1.not_gt, h1.ne']

theorem Memory.risesFrom_set {lo : Nat} (hm : Memory.risesFrom lo m = true) (ha : lo ≤ a) :
    Memory.risesFrom lo (m.set a b) = true := by
  induction m generalizing lo with
  | nil => simpa [Memory.set, Memory.risesFrom] using ha
  | cons x rest ih =>
    obtain ⟨k, v⟩ := x
    simp only [Memory.risesFrom, Bool.and_eq_true, decide_eq_true_eq] at hm
    rcases lt_trichotomy a k with h | h | h
    · simp only [Memory.set, if_pos h, Memory.risesFrom, Bool.and_eq_true, decide_eq_true_eq]
      exact ⟨ha, h, hm.2⟩
    · subst h
      simpa [Memory.set, Memory.risesFrom] using hm
    · simp only [Memory.set, if_neg h.not_gt, if_neg h.ne', Memory.risesFrom, Bool.and_eq_true, decide_eq_true_eq]
      exact ⟨hm.1, ih hm.2 h⟩

/-- Writing a byte keeps the canonical form. -/
theorem Memory.wf_set (hm : m.wf = true) (a : Nat) (b : Byte) : (m.set a b).wf = true :=
  Memory.risesFrom_set hm (Nat.zero_le a)

/-- Writing an address that exists keeps every listed address one that exists. -/
theorem Memory.below_set {size : Nat} (hm : m.below size = true) (ha : a < size) (b : Byte) :
    (m.set a b).below size = true := by
  induction m with
  | nil => simpa [Memory.set, Memory.below] using ha
  | cons x rest ih =>
    obtain ⟨k, v⟩ := x
    have hr : Memory.below size rest = true := by
      simp only [Memory.below, List.all_cons, Bool.and_eq_true] at hm
      exact hm.2
    rcases lt_trichotomy a k with h | h | h
    · simpa [Memory.set, Memory.below, h, ha] using hm
    · subst h
      simpa [Memory.set, Memory.below] using hm
    · have := ih hr
      simp only [Memory.below, List.all_cons, Bool.and_eq_true] at hm this
      simp only [Memory.set, if_neg h.not_gt, if_neg h.ne', Memory.below, List.all_cons, Bool.and_eq_true]
      exact ⟨hm.1, this⟩

/-! ### The canonical form, kept by every operation -/

/-- A workspace in canonical form: strictly rising addresses, all of them below 4096. -/
def WsForm (m : Memory) : Prop := m.wf = true ∧ m.below 4096 = true

/-- An external memory in canonical form: strictly rising addresses, all of them below its size. -/
def ExtForm (size : Nat) (m : Memory) : Prop := m.wf = true ∧ m.below size = true

theorem putByte_form (hm : WsForm m) (a : Nat) (b : Byte) : WsForm (putByte m a b) := by
  unfold putByte
  split
  · next h => exact ⟨Memory.wf_set hm.1 a b, Memory.below_set hm.2 h b⟩
  · exact hm

theorem putSample_form (hm : WsForm m) (a : Nat) (v : Half) : WsForm (putSample m a v) :=
  putByte_form (putByte_form hm a _) (a + 1) _

theorem putExt_form {size : Nat} (hm : ExtForm size m) (a : Nat) (b : Byte) : ExtForm size (putExt size m a b) := by
  unfold putExt
  split
  · next h => exact ⟨Memory.wf_set hm.1 a b, Memory.below_set hm.2 h b⟩
  · exact hm

/-- A fold keeps what each of its steps keeps. -/
theorem foldl_keeps {α β : Type} {p : β → Prop} {f : β → α → β} (hf : ∀ m x, p m → p (f m x)) (l : List α) {m : β}
    (hm : p m) : p (l.foldl f m) := by
  induction l generalizing m with
  | nil => exact hm
  | cons x rest ih => exact ih (hf m x hm)

theorem putSamples_form (hm : WsForm m) (writes : List (Nat × Word)) : WsForm (putSamples m writes) :=
  foldl_keeps (p := WsForm) (fun _ x h => putSample_form h x.1 _) writes hm

theorem copyIn_form (hm : WsForm m) (ext : Memory) (o e n : Nat) : WsForm (copyIn m ext o e n) :=
  foldl_keeps (p := WsForm) (fun _ i h => putByte_form h (o + i) _) _ hm

theorem copyOut_form {size : Nat} (hm : ExtForm size m) (ep : Nat) (ws : Memory) (e o n : Nat) :
    ExtForm size (copyOut size m ep ws e o n) :=
  foldl_keeps (p := ExtForm size) (fun _ i h => putExt_form h (e + i) _) _ hm

/-! ### What a workspace byte reads as after a write -/

/-- Everything a byte write can do to a read. -/
theorem wsByteAt_putByte (e : Nat) (m : Memory) (a : Nat) (b : Byte) (x : Nat) :
    wsByteAt e (putByte m a b) x = if x = a ∧ a < 4096 then b else wsByteAt e m x := by
  unfold putByte
  split
  · next h =>
    by_cases hx : x = a
    · subst hx
      simp [wsByteAt, h]
    · simp [wsByteAt, Memory.get?_set_of_ne m hx, hx]
  · next h => simp [h]

/-- Everything a sample write can do to a byte read. -/
theorem wsByteAt_putSample (e : Nat) (m : Memory) (a : Nat) (v : Half) (x : Nat) :
    wsByteAt e (putSample m a v) x =
      if x = a + 1 ∧ a + 1 < 4096 then v.extractLsb' 0 8
      else if x = a ∧ a < 4096 then v.extractLsb' 8 8 else wsByteAt e m x := by
  simp [putSample, wsByteAt_putByte]

/-- A sample write leaves every byte outside its two alone. -/
theorem wsByteAt_putSample_of_ne (e : Nat) (m : Memory) {a : Nat} (v : Half) {x : Nat} (h0 : x ≠ a) (h1 : x ≠ a + 1) :
    wsByteAt e (putSample m a v) x = wsByteAt e m x := by
  simp [wsByteAt_putSample, h0, h1]

/-- `SampleRead(a)` after `SampleWrite(a, v)` returns v (41_workspace_ops.md rule R87). -/
theorem sampleAt_putSample_self (e : Nat) (m : Memory) {a : Nat} (ha : a + 2 ≤ 4096) (v : Half) :
    sampleAt e (putSample m a v) a = v := by
  have h1 : a + 1 < 4096 := by omega
  have h2 : a < 4096 := by omega
  simp only [sampleAt, wsByteAt_putSample, h1, h2, and_true, if_true]
  rw [if_neg (by omega)]
  ext i hi
  simp only [BitVec.getElem_append, BitVec.getElem_extractLsb']
  split
  · simp [BitVec.getElem_eq_testBit_toNat, BitVec.getLsbD]
  · simp [BitVec.getElem_eq_testBit_toNat, BitVec.getLsbD]
    congr 1
    omega

/-- A sample two or more bytes away from the one written reads as before. -/
theorem sampleAt_putSample_of_apart (e : Nat) (m : Memory) {a x : Nat} (v : Half) (h : x + 2 ≤ a ∨ a + 2 ≤ x) :
    sampleAt e (putSample m a v) x = sampleAt e m x := by
  simp only [sampleAt]
  rw [wsByteAt_putSample_of_ne e m v (by omega) (by omega), wsByteAt_putSample_of_ne e m v (by omega) (by omega)]

/-- A list of sample writes leaves alone every byte none of them covers. -/
theorem wsByteAt_putSamples_of_ne (e : Nat) (m : Memory) (writes : List (Nat × Word)) (x : Nat)
    (h : ∀ w ∈ writes, x ≠ w.1 ∧ x ≠ w.1 + 1) : wsByteAt e (putSamples m writes) x = wsByteAt e m x := by
  induction writes generalizing m with
  | nil => rfl
  | cons w rest ih =>
    have hw := h w (by simp)
    exact (ih (putSample m w.1 _) fun w' hw' => h w' (by simp [hw'])).trans
      (wsByteAt_putSample_of_ne e m _ hw.1 hw.2)

/-- A list of sample writes leaves alone every sample it keeps two bytes away from. -/
theorem sampleAt_putSamples_of_apart (e : Nat) (m : Memory) (writes : List (Nat × Word)) (x : Nat)
    (h : ∀ w ∈ writes, x + 2 ≤ w.1 ∨ w.1 + 2 ≤ x) : sampleAt e (putSamples m writes) x = sampleAt e m x := by
  simp only [sampleAt]
  rw [wsByteAt_putSamples_of_ne e m writes x fun w hw => by have := h w hw; omega,
    wsByteAt_putSamples_of_ne e m writes (x + 1) fun w hw => by have := h w hw; omega]

/-- After sample writes to places two bytes or more apart, each place holds its own value. -/
theorem sampleAt_putSamples_of_mem (e : Nat) (m : Memory) (writes : List (Nat × Word))
    (hp : writes.Pairwise fun w w' => w.1 + 2 ≤ w'.1 ∨ w'.1 + 2 ≤ w.1) {w : Nat × Word} (hw : w ∈ writes)
    (ha : w.1 + 2 ≤ 4096) : sampleAt e (putSamples m writes) w.1 = w.2.setWidth 16 := by
  induction writes generalizing m with
  | nil => simp at hw
  | cons w' rest ih =>
    rw [List.pairwise_cons] at hp
    rcases List.mem_cons.mp hw with rfl | hw
    · refine (sampleAt_putSamples_of_apart e (putSample m w.1 _) rest w.1 fun q hq => ?_).trans
        (sampleAt_putSample_self e m ha _)
      exact hp.1 q hq
    · exact ih (putSample m w'.1 _) hp.2 hw

/-! ### External bytes and bulk copies -/

/-- Everything an external byte write can do to a read. -/
theorem extByteAt_putExt (size : Nat) (m : Memory) (a : Nat) (b : Byte) (x : Nat) :
    extByteAt (putExt size m a b) x = if x = a ∧ a < size then b else extByteAt m x := by
  unfold putExt
  split
  · next h =>
    by_cases hx : x = a
    · subst hx
      simp [extByteAt, h]
    · simp [extByteAt, Memory.get?_set_of_ne m hx, hx]
  · next h => simp [h]

/-- Everything a bulk copy in can do to a workspace byte (41_workspace_ops.md rule R88). -/
theorem wsByteAt_copyIn (ep : Nat) (ws ext : Memory) (o e n : Nat) (h : o + n ≤ 4096) (x : Nat) :
    wsByteAt ep (copyIn ws ext o e n) x =
      if o ≤ x ∧ x < o + n then extByteAt ext (e + (x - o)) else wsByteAt ep ws x := by
  induction n with
  | zero =>
    simp only [copyIn, List.range_zero, List.foldl_nil]
    rw [if_neg (by omega)]
  | succ n ih =>
    have ih := ih (by omega)
    simp only [copyIn, List.range_succ, List.foldl_append, List.foldl_cons, List.foldl_nil] at ih ⊢
    rw [wsByteAt_putByte, ih]
    by_cases hx : x = o + n
    · subst hx
      rw [if_pos ⟨rfl, by omega⟩, if_pos (by omega)]
      congr 2
      omega
    · rw [if_neg (by omega)]
      by_cases hr : o ≤ x ∧ x < o + n
      · rw [if_pos hr, if_pos (by omega)]
      · rw [if_neg hr, if_neg (by omega)]

/-- Everything a bulk copy out can do to an external byte (rule R89). -/
theorem extByteAt_copyOut (size : Nat) (ext : Memory) (ep : Nat) (ws : Memory) (e o n : Nat) (h : e + n ≤ size)
    (x : Nat) :
    extByteAt (copyOut size ext ep ws e o n) x =
      if e ≤ x ∧ x < e + n then wsByteAt ep ws (o + (x - e)) else extByteAt ext x := by
  induction n with
  | zero =>
    simp only [copyOut, List.range_zero, List.foldl_nil]
    rw [if_neg (by omega)]
  | succ n ih =>
    have ih := ih (by omega)
    simp only [copyOut, List.range_succ, List.foldl_append, List.foldl_cons, List.foldl_nil] at ih ⊢
    rw [extByteAt_putExt, ih]
    by_cases hx : x = e + n
    · subst hx
      rw [if_pos ⟨rfl, by omega⟩, if_pos (by omega)]
      congr 2
      omega
    · rw [if_neg (by omega)]
      by_cases hr : e ≤ x ∧ x < e + n
      · rw [if_pos hr, if_pos (by omega)]
      · rw [if_neg hr, if_neg (by omega)]

end Sys2Proof.Machine
end

