-- ==== Sys2Proof/Laws/PerInstr.lean ====
section
/-! SUPPORT. What holds of every command as syntax (30_encoding.md rules R66, R67, R71), one lemma per command. -/

namespace Sys2Proof.Laws.Encoding

/-- The command is well formed, its word has the opcode field of rule R66 and reserved bits of zero (rule R67), and the
opcode map (rule R71) lists it once, under that opcode. -/
def Statement (i : Instr) : Prop :=
  i.wellFormed = true ∧ opField (encode i) = opcode i ∧ reservedClear (encode i) = true ∧
  opcodeMap.filter (fun row => row.2 == i) = [(opcode i, i)]

theorem sat16 : Statement .sat16 := by unfold Statement; decide
theorem mulsh : Statement .mulsh := by unfold Statement; decide
theorem rdot : Statement .rdot := by unfold Statement; decide
theorem gmul : Statement .gmul := by unfold Statement; decide
theorem bload : Statement .bload := by unfold Statement; decide
theorem bstore : Statement .bstore := by unfold Statement; decide
theorem srd : Statement .srd := by unfold Statement; decide
theorem swr : Statement .swr := by unfold Statement; decide
theorem bfly : Statement .bfly := by unfold Statement; decide
theorem synth : Statement .synth := by unfold Statement; decide
theorem window : Statement .window := by unfold Statement; decide
theorem gain : Statement .gain := by unfold Statement; decide
theorem group : Statement .group := by unfold Statement; decide
theorem decode : Statement .decode := by unfold Statement; decide

end Sys2Proof.Laws.Encoding
end

