-- ==== Sys2Proof/Laws/Perform.lean ====
section
/-! SUPPORT. What performing a command can do (State.perform): the first violated check is reported and nothing else
happens (60_exceptions.md rules R143, R144), or the command's effect and `LAST_OK`. -/

namespace Sys2Proof.Machine

variable {s t : State} {checks : List Check} {run : State → State}

/-- No check violated: the effect, to completion. -/
theorem perform_of_checks_pass (run : State → State) (h : ∀ c ∈ checks, c.bad = false) :
    s.perform checks run = .next (run s).completed := by
  have hn : checks.find? (·.bad) = none := by
    rw [List.find?_eq_none]
    intro c hc
    simp [h c hc]
  simp [State.perform, hn]

/-- A command without preconditions completes. -/
@[simp] theorem perform_nil (run : State → State) (s : State) : s.perform [] run = .next (run s).completed := rfl

/-- A passed check is passed over. -/
@[simp] theorem perform_cons_of_pass {c : Check} (h : c.bad = false) :
    s.perform (c :: checks) run = s.perform checks run := by
  simp [State.perform, h]

/-- The first violated check is the one reported. -/
@[simp] theorem perform_cons_of_bad {c : Check} (h : c.bad = true) :
    s.perform (c :: checks) run = .next (s.enterFault c.cause c.info) := by
  simp [State.perform, h]

/-- Everything performing a command can do. -/
theorem perform_cases (h : s.perform checks run = .next t) :
    ((∀ c ∈ checks, c.bad = false) ∧ t = (run s).completed) ∨
    (∃ c ∈ checks, c.bad = true ∧ t = s.enterFault c.cause c.info) := by
  simp only [State.perform, Host.Outcome.next.injEq] at h
  cases hf : checks.find? (·.bad) with
  | none =>
    rw [hf] at h
    refine .inl ⟨fun c hc => ?_, h.symm⟩
    have := List.find?_eq_none.mp hf c hc
    simpa using this
  | some c =>
    rw [hf] at h
    exact .inr ⟨c, List.mem_of_find?_eq_some hf, by simpa using List.find?_some hf, h.symm⟩

end Sys2Proof.Machine
end

