-- ==== Sys2Proof/Laws/Pipeline.lean ====
section
/-! SUPPORT. What the transform, the window, the gain stage and the group can do to the workspace: where they write, that
they keep the canonical form, and what a sample holds after the window and the gain. -/

namespace Sys2Proof.Machine

/-! ### The transform -/

/-- Every even-pass write is at a row of one of the two slots (43_synthesis.md rule R106). -/
theorem evenWrites_rows (N P : Nat) (b : Lanes) :
    ∀ w ∈ evenWrites N P b, (∃ r < 16, w.1 = N + 0x20 * r) ∨ (∃ r < 17, w.1 = P + 0x20 * r) := by
  intro w hw
  simp only [evenWrites, List.mem_cons, List.not_mem_nil, or_false] at hw
  rcases hw with rfl | rfl | rfl | rfl | rfl | rfl | rfl | rfl | rfl | rfl | rfl | rfl | rfl | rfl | rfl | rfl | rfl
  · exact .inl ⟨0, by omega, by simp⟩
  · exact .inr ⟨16, by omega, by simp⟩
  · exact .inr ⟨0, by omega, by simp⟩
  · exact .inr ⟨8, by omega, by simp⟩
  · exact .inl ⟨8, by omega, by simp⟩
  · exact .inr ⟨12, by omega, by simp⟩
  · exact .inl ⟨12, by omega, by simp⟩
  · exact .inr ⟨4, by omega, by simp⟩
  · exact .inl ⟨4, by omega, by simp⟩
  · exact .inl ⟨2, by omega, by simp⟩
  · exact .inl ⟨6, by omega, by simp⟩
  · exact .inl ⟨10, by omega, by simp⟩
  · exact .inl ⟨14, by omega, by simp⟩
  · exact .inr ⟨10, by omega, by simp⟩
  · exact .inr ⟨14, by omega, by simp⟩
  · exact .inr ⟨2, by omega, by simp⟩
  · exact .inr ⟨6, by omega, by simp⟩

/-- Every odd-pass write is at a row of one of the two slots (rule R109). -/
theorem oddWrites_rows (N P : Nat) (d : Lanes) :
    ∀ w ∈ oddWrites N P d, (∃ r < 16, w.1 = N + 0x20 * r) ∨ (∃ r < 17, w.1 = P + 0x20 * r) := by
  intro w hw
  simp only [oddWrites, List.mem_cons, List.not_mem_nil, or_false] at hw
  rcases hw with rfl | rfl | rfl | rfl | rfl | rfl | rfl | rfl | rfl | rfl | rfl | rfl | rfl | rfl | rfl | rfl
  · exact .inr ⟨15, by omega, by simp⟩
  · exact .inr ⟨9, by omega, by simp⟩
  · exact .inr ⟨1, by omega, by simp⟩
  · exact .inl ⟨1, by omega, by simp⟩
  · exact .inl ⟨15, by omega, by simp⟩
  · exact .inr ⟨3, by omega, by simp⟩
  · exact .inr ⟨5, by omega, by simp⟩
  · exact .inr ⟨7, by omega, by simp⟩
  · exact .inr ⟨11, by omega, by simp⟩
  · exact .inr ⟨13, by omega, by simp⟩
  · exact .inl ⟨13, by omega, by simp⟩
  · exact .inl ⟨3, by omega, by simp⟩
  · exact .inl ⟨11, by omega, by simp⟩
  · exact .inl ⟨9, by omega, by simp⟩
  · exact .inl ⟨7, by omega, by simp⟩
  · exact .inl ⟨5, by omega, by simp⟩

/-- The transform writes only the 33 positions of rule R110. -/
theorem wsByteAt_synthesis_of_outside (c : Config) (e : Nat) (ws : Memory) (I N P x : Nat)
    (hN : ∀ r < 16, x ≠ N + 0x20 * r ∧ x ≠ N + 0x20 * r + 1)
    (hP : ∀ r < 17, x ≠ P + 0x20 * r ∧ x ≠ P + 0x20 * r + 1) :
    wsByteAt e (synthesis c e ws I N P) x = wsByteAt e ws x := by
  have rows : ∀ l : List (Nat × Word),
      (∀ w ∈ l, (∃ r < 16, w.1 = N + 0x20 * r) ∨ (∃ r < 17, w.1 = P + 0x20 * r)) →
      ∀ m, wsByteAt e (putSamples m l) x = wsByteAt e m x := by
    intro l hl m
    refine wsByteAt_putSamples_of_ne e m l x fun w hw => ?_
    rcases hl w hw with ⟨r, hr, h⟩ | ⟨r, hr, h⟩
    · rw [h]
      exact hN r hr
    · rw [h]
      exact hP r hr
  rw [synthesis, oddPass, rows _ (oddWrites_rows N P _), evenPass, rows _ (evenWrites_rows N P _)]

theorem synthesis_form {ws : Memory} (h : WsForm ws) (c : Config) (e I N P : Nat) :
    WsForm (synthesis c e ws I N P) :=
  putSamples_form (putSamples_form h _) _

/-! ### The window -/

theorem accumulate_congr {f g : Nat → Word} {ks : List Nat} (h : ∀ k ∈ ks, f k = g k) :
    accumulate f ks = accumulate g ks := by
  have : ∀ (l : List Nat) (a : Word), (∀ k ∈ l, f k = g k) →
      l.foldl (fun acc k => acc + f k) a = l.foldl (fun acc k => acc + g k) a := by
    intro l
    induction l with
    | nil => simp
    | cons k rest ih =>
      intro a hl
      simp only [List.foldl_cons, hl k (by simp)]
      exact ih _ fun k' hk' => hl k' (by simp [hk'])
  exact this ks 0 h

/-- A window output depends on the workspace only through the 17 rows of its slot (44_window.md rule R120). -/
theorem windowValue_congr {c : Config} {e e' : Nat} {ws ws' : Memory} {p H j : Nat} (hj : j < 33)
    (h : ∀ r < 17, ∀ k < 16, hist e ws H r k = hist e' ws' H r k) :
    windowValue c e ws p H j = windowValue c e' ws' p H j := by
  have ht : ∀ r < 17, ∀ base k, k < 16 → tap c e ws H r base k = tap c e' ws' H r base k := by
    intro r hr base k hk
    simp only [tap, h r hr k hk]
  have ha : ∀ r < 17, ∀ base k, k < 16 →
      alternating (tap c e ws H r base) k = alternating (tap c e' ws' H r base) k := by
    intro r hr base k hk
    simp only [alternating, ht r hr base k hk]
  have hf : ∀ r < 17, ∀ base ks, (∀ k ∈ ks, k < 16) →
      accumulate (tap c e ws H r base) ks = accumulate (tap c e' ws' H r base) ks :=
    fun r hr base ks hk => accumulate_congr fun k hm => ht r hr base k (hk k hm)
  have hs : ∀ r < 17, ∀ base ks, (∀ k ∈ ks, k < 16) →
      accumulate (alternating (tap c e ws H r base)) ks = accumulate (alternating (tap c e' ws' H r base)) ks :=
    fun r hr base ks hk => accumulate_congr fun k hm => ha r hr base k (hk k hm)
  unfold windowValue
  split
  · next h1 =>
    simp only [firstHalf]
    rw [hf j (by omega) _ _ (by decide), hf j (by omega) _ _ (by decide)]
  · split
    · simp only [crossover]
      rw [hf 16 (by omega) _ _ (by decide), hf 16 (by omega) _ _ (by decide)]
    · simp only [secondHalf]
      rw [hs _ (by omega) _ _ (by decide), hs _ (by omega) _ _ (by decide)]

/-- The window writes only O to O + 0x41 (rule R120). -/
theorem wsByteAt_windowPass_of_outside (c : Config) (e : Nat) (ws : Memory) (p H O x : Nat)
    (hx : x < O ∨ O + 0x42 ≤ x) : wsByteAt e (windowPass c e ws p H O) x = wsByteAt e ws x := by
  have : ∀ l : List Nat, (∀ j ∈ l, j < 33) → ∀ m,
      wsByteAt e (l.foldl (fun m j => putSample m (O + 2 * j) (low16 (windowValue c e m p H j))) m) x
        = wsByteAt e m x := by
    intro l
    induction l with
    | nil => simp
    | cons j rest ih =>
      intro hl m
      have hj := hl j (by simp)
      simp only [List.foldl_cons]
      rw [ih (fun j' hj' => hl j' (by simp [hj']))]
      exact wsByteAt_putSample_of_ne e m _ (by omega) (by omega)
  exact this _ (by simp) ws

theorem windowPass_form {ws : Memory} (h : WsForm ws) (c : Config) (e p H O : Nat) :
    WsForm (windowPass c e ws p H O) :=
  foldl_keeps (p := WsForm) (fun _ j hm => putSample_form hm (O + 2 * j) _) _ h

/-- With the output apart from the slot's rows, every output is computed from the history the window found (rules R114 to
R117, R119). -/
theorem sampleAt_windowPass (c : Config) (e : Nat) (ws : Memory) (p H O : Nat) (hO : O + 0x42 ≤ 4096)
    (hd : O + 0x42 ≤ H ∨ H + 0x220 ≤ O) {j : Nat} (hj : j < 33) :
    sampleAt e (windowPass c e ws p H O) (O + 2 * j) = low16 (windowValue c e ws p H j) := by
  have : ∀ n ≤ 33,
      (∀ x, x < O ∨ O + 0x42 ≤ x → wsByteAt e ((List.range n).foldl
        (fun m j => putSample m (O + 2 * j) (low16 (windowValue c e m p H j))) ws) x = wsByteAt e ws x) ∧
      (∀ j < n, sampleAt e ((List.range n).foldl
        (fun m j => putSample m (O + 2 * j) (low16 (windowValue c e m p H j))) ws) (O + 2 * j)
          = low16 (windowValue c e ws p H j)) := by
    intro n
    induction n with
    | zero => simp
    | succ n ih =>
      intro hn
      obtain ⟨ho, hs⟩ := ih (by omega)
      rw [List.range_succ, List.foldl_append, List.foldl_cons, List.foldl_nil]
      refine ⟨fun x hx => ?_, fun j hj => ?_⟩
      · rw [wsByteAt_putSample_of_ne e _ _ (by omega) (by omega)]
        exact ho x hx
      · rcases Nat.lt_succ_iff_lt_or_eq.mp hj with h | rfl
        · rw [sampleAt_putSample_of_apart e _ _ (by omega)]
          exact hs j h
        · rw [sampleAt_putSample_self e _ (by omega)]
          refine congrArg low16 (windowValue_congr (by omega) fun r hr k hk => ?_)
          simp only [hist, sampleAt]
          rw [ho _ (by omega), ho _ (by omega)]
  exact (this 33 le_rfl).2 j hj

/-! ### The gain stage -/

/-- The gain stage writes only its samples (45_gain.md rule R121). -/
theorem wsByteAt_applyGain_of_outside (e : Nat) (ws : Memory) (o n : Nat) (g : Half) (x : Nat)
    (hx : x < o ∨ o + 2 * n ≤ x) : wsByteAt e (applyGain e ws o n g) x = wsByteAt e ws x := by
  have : ∀ l : List Nat, (∀ j ∈ l, j < n) → ∀ m,
      wsByteAt e (l.foldl (fun m i => putSample m (o + 2 * i) (scaledMultiply (sampleAt e m (o + 2 * i)) g)) m) x
        = wsByteAt e m x := by
    intro l
    induction l with
    | nil => simp
    | cons j rest ih =>
      intro hl m
      have hj := hl j (by simp)
      simp only [List.foldl_cons]
      rw [ih (fun j' hj' => hl j' (by simp [hj']))]
      exact wsByteAt_putSample_of_ne e m _ (by omega) (by omega)
  exact this _ (by simp) ws

/-- Every sample of the gain's range becomes its scaled, saturated self (rule R121). -/
theorem sampleAt_applyGain (e : Nat) (ws : Memory) (o n : Nat) (g : Half) (h : o + 2 * n ≤ 4096) {i : Nat}
    (hi : i < n) :
    sampleAt e (applyGain e ws o n g) (o + 2 * i) = scaledMultiply (sampleAt e ws (o + 2 * i)) g := by
  induction n with
  | zero => omega
  | succ n ih =>
    have hg : applyGain e ws o (n + 1) g = putSample (applyGain e ws o n g) (o + 2 * n)
        (scaledMultiply (sampleAt e (applyGain e ws o n g) (o + 2 * n)) g) := by
      simp [applyGain, List.range_succ, List.foldl_append]
    rw [hg]
    rcases Nat.lt_succ_iff_lt_or_eq.mp hi with h' | rfl
    · rw [sampleAt_putSample_of_apart e _ _ (by omega)]
      exact ih (by omega) h'
    · rw [sampleAt_putSample_self e _ (by omega)]
      refine congrArg (scaledMultiply · g) ?_
      simp only [sampleAt]
      rw [wsByteAt_applyGain_of_outside _ _ _ _ _ _ (by omega),
        wsByteAt_applyGain_of_outside _ _ _ _ _ _ (by omega)]

theorem applyGain_form {ws : Memory} (h : WsForm ws) (e o n : Nat) (g : Half) : WsForm (applyGain e ws o n g) :=
  foldl_keeps (p := WsForm) (fun _ i hm => putSample_form hm (o + 2 * i) _) _ h

/-! ### The group -/

/-- A group writes only the 33 history positions and its 33 outputs (46_frame_driver.md rule R130). -/
theorem wsByteAt_groupWorkspace_of_outside (c : Config) (e : Nat) (ws : Memory) (I O : Nat) (p : BitVec 4)
    (N P g0 g1 : Half) (x : Nat)
    (hN : ∀ r < 16, x ≠ N.toNat + 0x20 * r ∧ x ≠ N.toNat + 0x20 * r + 1)
    (hP : ∀ r < 17, x ≠ P.toNat + 0x20 * r ∧ x ≠ P.toNat + 0x20 * r + 1)
    (hO : x < O ∨ O + 0x42 ≤ x) :
    wsByteAt e (groupWorkspace c e ws I O p N P g0 g1) x = wsByteAt e ws x := by
  unfold groupWorkspace
  dsimp only
  rw [wsByteAt_applyGain_of_outside _ _ _ _ _ _ (by omega), wsByteAt_applyGain_of_outside _ _ _ _ _ _ (by omega),
    wsByteAt_windowPass_of_outside _ _ _ _ _ _ _ hO, wsByteAt_synthesis_of_outside _ _ _ _ _ _ _ hN hP]

theorem groupWorkspace_form {ws : Memory} (h : WsForm ws) (c : Config) (e I O : Nat) (p : BitVec 4)
    (N P g0 g1 : Half) : WsForm (groupWorkspace c e ws I O p N P g0 g1) :=
  applyGain_form (applyGain_form (windowPass_form (synthesis_form h _ _ _ _ _) _ _ _ _ _) _ _ _ _) _ _ _ _

/-- What a group body makes of the state: the workspace, the phase and the slot registers, nothing else. -/
theorem groupBody_eq (I O : Nat) (s : State) :
    s.groupBody I O =
      let p := if s.cfg.rotateFirst then s.phase - 1 else s.phase
      { s with
        phase := s.phase - 1
        slotNew := mutateSlot s.slotPrev p
        slotPrev := mutateSlot s.slotNew p
        ws := groupWorkspace s.cfg s.epoch s.ws I O p (mutateSlot s.slotNew p) (mutateSlot s.slotPrev p) s.g0 s.g1 } := by
  unfold State.groupBody
  cases h : s.cfg.rotateFirst <;>
    simp [h, State.rotatePhase, State.mutateSlots, State.groupWork, State.swapSlots]

end Sys2Proof.Machine
end

