-- ==== Sys2Proof/Laws/State.lean ====
section
/-! SUPPORT. What each named update of the state makes of each field, so that no proof unfolds a record update. -/

namespace Sys2Proof.Machine

section
variable (s : State)

/-! Taking a fault (60_exceptions.md rules R144, R145) -/

@[simp] theorem State.enterFault_faulted (c : Cause) (info : Word) : (s.enterFault c info).faulted = true := rfl
@[simp] theorem State.enterFault_lastOk (c : Cause) (info : Word) : (s.enterFault c info).lastOk = false := rfl
@[simp] theorem State.enterFault_cause (c : Cause) (info : Word) : (s.enterFault c info).cause = if s.faulted then s.cause else c := rfl
@[simp] theorem State.enterFault_info (c : Cause) (info : Word) : (s.enterFault c info).info = if s.faulted then s.info else info := rfl
@[simp] theorem State.enterFault_a0 (c : Cause) (info : Word) : (s.enterFault c info).a0 = s.a0 := rfl
@[simp] theorem State.enterFault_a1 (c : Cause) (info : Word) : (s.enterFault c info).a1 = s.a1 := rfl
@[simp] theorem State.enterFault_a2 (c : Cause) (info : Word) : (s.enterFault c info).a2 = s.a2 := rfl
@[simp] theorem State.enterFault_a3 (c : Cause) (info : Word) : (s.enterFault c info).a3 = s.a3 := rfl
@[simp] theorem State.enterFault_res (c : Cause) (info : Word) : (s.enterFault c info).res = s.res := rfl
@[simp] theorem State.enterFault_phase (c : Cause) (info : Word) : (s.enterFault c info).phase = s.phase := rfl
@[simp] theorem State.enterFault_slotNew (c : Cause) (info : Word) : (s.enterFault c info).slotNew = s.slotNew := rfl
@[simp] theorem State.enterFault_slotPrev (c : Cause) (info : Word) : (s.enterFault c info).slotPrev = s.slotPrev := rfl
@[simp] theorem State.enterFault_g0 (c : Cause) (info : Word) : (s.enterFault c info).g0 = s.g0 := rfl
@[simp] theorem State.enterFault_g1 (c : Cause) (info : Word) : (s.enterFault c info).g1 = s.g1 := rfl
@[simp] theorem State.enterFault_v (c : Cause) (info : Word) : (s.enterFault c info).v = s.v := rfl
@[simp] theorem State.enterFault_fsm (c : Cause) (info : Word) : (s.enterFault c info).fsm = s.fsm := rfl
@[simp] theorem State.enterFault_sb (c : Cause) (info : Word) : (s.enterFault c info).sb = s.sb := rfl
@[simp] theorem State.enterFault_grp (c : Cause) (info : Word) : (s.enterFault c info).grp = s.grp := rfl
@[simp] theorem State.enterFault_inCur (c : Cause) (info : Word) : (s.enterFault c info).inCur = s.inCur := rfl
@[simp] theorem State.enterFault_outCur (c : Cause) (info : Word) : (s.enterFault c info).outCur = s.outCur := rfl
@[simp] theorem State.enterFault_extRd (c : Cause) (info : Word) : (s.enterFault c info).extRd = s.extRd := rfl
@[simp] theorem State.enterFault_extWr (c : Cause) (info : Word) : (s.enterFault c info).extWr = s.extWr := rfl
@[simp] theorem State.enterFault_ws (c : Cause) (info : Word) : (s.enterFault c info).ws = s.ws := rfl
@[simp] theorem State.enterFault_cfg (c : Cause) (info : Word) : (s.enterFault c info).cfg = s.cfg := rfl
@[simp] theorem State.enterFault_ext (c : Cause) (info : Word) : (s.enterFault c info).ext = s.ext := rfl
@[simp] theorem State.enterFault_host (c : Cause) (info : Word) : (s.enterFault c info).host = s.host := rfl
@[simp] theorem State.enterFault_rdata (c : Cause) (info : Word) : (s.enterFault c info).rdata = s.rdata := rfl
@[simp] theorem State.enterFault_epoch (c : Cause) (info : Word) : (s.enterFault c info).epoch = s.epoch := rfl
@[simp] theorem State.enterFault_draws (c : Cause) (info : Word) : (s.enterFault c info).draws = s.draws := rfl

/-! Completing a command (30_encoding.md rule R68) -/

@[simp] theorem State.completed_faulted : (s.completed).faulted = s.faulted := rfl
@[simp] theorem State.completed_lastOk : (s.completed).lastOk = true := rfl
@[simp] theorem State.completed_cause : (s.completed).cause = s.cause := rfl
@[simp] theorem State.completed_info : (s.completed).info = s.info := rfl
@[simp] theorem State.completed_a0 : (s.completed).a0 = s.a0 := rfl
@[simp] theorem State.completed_a1 : (s.completed).a1 = s.a1 := rfl
@[simp] theorem State.completed_a2 : (s.completed).a2 = s.a2 := rfl
@[simp] theorem State.completed_a3 : (s.completed).a3 = s.a3 := rfl
@[simp] theorem State.completed_res : (s.completed).res = s.res := rfl
@[simp] theorem State.completed_phase : (s.completed).phase = s.phase := rfl
@[simp] theorem State.completed_slotNew : (s.completed).slotNew = s.slotNew := rfl
@[simp] theorem State.completed_slotPrev : (s.completed).slotPrev = s.slotPrev := rfl
@[simp] theorem State.completed_g0 : (s.completed).g0 = s.g0 := rfl
@[simp] theorem State.completed_g1 : (s.completed).g1 = s.g1 := rfl
@[simp] theorem State.completed_v : (s.completed).v = s.v := rfl
@[simp] theorem State.completed_fsm : (s.completed).fsm = s.fsm := rfl
@[simp] theorem State.completed_sb : (s.completed).sb = s.sb := rfl
@[simp] theorem State.completed_grp : (s.completed).grp = s.grp := rfl
@[simp] theorem State.completed_inCur : (s.completed).inCur = s.inCur := rfl
@[simp] theorem State.completed_outCur : (s.completed).outCur = s.outCur := rfl
@[simp] theorem State.completed_extRd : (s.completed).extRd = s.extRd := rfl
@[simp] theorem State.completed_extWr : (s.completed).extWr = s.extWr := rfl
@[simp] theorem State.completed_ws : (s.completed).ws = s.ws := rfl
@[simp] theorem State.completed_cfg : (s.completed).cfg = s.cfg := rfl
@[simp] theorem State.completed_ext : (s.completed).ext = s.ext := rfl
@[simp] theorem State.completed_host : (s.completed).host = s.host := rfl
@[simp] theorem State.completed_rdata : (s.completed).rdata = s.rdata := rfl
@[simp] theorem State.completed_epoch : (s.completed).epoch = s.epoch := rfl
@[simp] theorem State.completed_draws : (s.completed).draws = s.draws := rfl

/-! A fault recorded, as the statements write it -/

@[simp] theorem State.faultedWith_faulted (c : Cause) (info : Word) : (s.faultedWith c info).faulted = true := rfl
@[simp] theorem State.faultedWith_lastOk (c : Cause) (info : Word) : (s.faultedWith c info).lastOk = false := rfl
@[simp] theorem State.faultedWith_cause (c : Cause) (info : Word) : (s.faultedWith c info).cause = c := rfl
@[simp] theorem State.faultedWith_info (c : Cause) (info : Word) : (s.faultedWith c info).info = info := rfl
@[simp] theorem State.faultedWith_a0 (c : Cause) (info : Word) : (s.faultedWith c info).a0 = s.a0 := rfl
@[simp] theorem State.faultedWith_a1 (c : Cause) (info : Word) : (s.faultedWith c info).a1 = s.a1 := rfl
@[simp] theorem State.faultedWith_a2 (c : Cause) (info : Word) : (s.faultedWith c info).a2 = s.a2 := rfl
@[simp] theorem State.faultedWith_a3 (c : Cause) (info : Word) : (s.faultedWith c info).a3 = s.a3 := rfl
@[simp] theorem State.faultedWith_res (c : Cause) (info : Word) : (s.faultedWith c info).res = s.res := rfl
@[simp] theorem State.faultedWith_phase (c : Cause) (info : Word) : (s.faultedWith c info).phase = s.phase := rfl
@[simp] theorem State.faultedWith_slotNew (c : Cause) (info : Word) : (s.faultedWith c info).slotNew = s.slotNew := rfl
@[simp] theorem State.faultedWith_slotPrev (c : Cause) (info : Word) : (s.faultedWith c info).slotPrev = s.slotPrev := rfl
@[simp] theorem State.faultedWith_g0 (c : Cause) (info : Word) : (s.faultedWith c info).g0 = s.g0 := rfl
@[simp] theorem State.faultedWith_g1 (c : Cause) (info : Word) : (s.faultedWith c info).g1 = s.g1 := rfl
@[simp] theorem State.faultedWith_v (c : Cause) (info : Word) : (s.faultedWith c info).v = s.v := rfl
@[simp] theorem State.faultedWith_fsm (c : Cause) (info : Word) : (s.faultedWith c info).fsm = s.fsm := rfl
@[simp] theorem State.faultedWith_sb (c : Cause) (info : Word) : (s.faultedWith c info).sb = s.sb := rfl
@[simp] theorem State.faultedWith_grp (c : Cause) (info : Word) : (s.faultedWith c info).grp = s.grp := rfl
@[simp] theorem State.faultedWith_inCur (c : Cause) (info : Word) : (s.faultedWith c info).inCur = s.inCur := rfl
@[simp] theorem State.faultedWith_outCur (c : Cause) (info : Word) : (s.faultedWith c info).outCur = s.outCur := rfl
@[simp] theorem State.faultedWith_extRd (c : Cause) (info : Word) : (s.faultedWith c info).extRd = s.extRd := rfl
@[simp] theorem State.faultedWith_extWr (c : Cause) (info : Word) : (s.faultedWith c info).extWr = s.extWr := rfl
@[simp] theorem State.faultedWith_ws (c : Cause) (info : Word) : (s.faultedWith c info).ws = s.ws := rfl
@[simp] theorem State.faultedWith_cfg (c : Cause) (info : Word) : (s.faultedWith c info).cfg = s.cfg := rfl
@[simp] theorem State.faultedWith_ext (c : Cause) (info : Word) : (s.faultedWith c info).ext = s.ext := rfl
@[simp] theorem State.faultedWith_host (c : Cause) (info : Word) : (s.faultedWith c info).host = s.host := rfl
@[simp] theorem State.faultedWith_rdata (c : Cause) (info : Word) : (s.faultedWith c info).rdata = s.rdata := rfl
@[simp] theorem State.faultedWith_epoch (c : Cause) (info : Word) : (s.faultedWith c info).epoch = s.epoch := rfl
@[simp] theorem State.faultedWith_draws (c : Cause) (info : Word) : (s.faultedWith c info).draws = s.draws := rfl

/-! One more access pending -/

@[simp] theorem State.pending_faulted (a : HostAccess) (rest : List HostAccess) : (s.pending a rest).faulted = s.faulted := rfl
@[simp] theorem State.pending_lastOk (a : HostAccess) (rest : List HostAccess) : (s.pending a rest).lastOk = s.lastOk := rfl
@[simp] theorem State.pending_cause (a : HostAccess) (rest : List HostAccess) : (s.pending a rest).cause = s.cause := rfl
@[simp] theorem State.pending_info (a : HostAccess) (rest : List HostAccess) : (s.pending a rest).info = s.info := rfl
@[simp] theorem State.pending_a0 (a : HostAccess) (rest : List HostAccess) : (s.pending a rest).a0 = s.a0 := rfl
@[simp] theorem State.pending_a1 (a : HostAccess) (rest : List HostAccess) : (s.pending a rest).a1 = s.a1 := rfl
@[simp] theorem State.pending_a2 (a : HostAccess) (rest : List HostAccess) : (s.pending a rest).a2 = s.a2 := rfl
@[simp] theorem State.pending_a3 (a : HostAccess) (rest : List HostAccess) : (s.pending a rest).a3 = s.a3 := rfl
@[simp] theorem State.pending_res (a : HostAccess) (rest : List HostAccess) : (s.pending a rest).res = s.res := rfl
@[simp] theorem State.pending_phase (a : HostAccess) (rest : List HostAccess) : (s.pending a rest).phase = s.phase := rfl
@[simp] theorem State.pending_slotNew (a : HostAccess) (rest : List HostAccess) : (s.pending a rest).slotNew = s.slotNew := rfl
@[simp] theorem State.pending_slotPrev (a : HostAccess) (rest : List HostAccess) : (s.pending a rest).slotPrev = s.slotPrev := rfl
@[simp] theorem State.pending_g0 (a : HostAccess) (rest : List HostAccess) : (s.pending a rest).g0 = s.g0 := rfl
@[simp] theorem State.pending_g1 (a : HostAccess) (rest : List HostAccess) : (s.pending a rest).g1 = s.g1 := rfl
@[simp] theorem State.pending_v (a : HostAccess) (rest : List HostAccess) : (s.pending a rest).v = s.v := rfl
@[simp] theorem State.pending_fsm (a : HostAccess) (rest : List HostAccess) : (s.pending a rest).fsm = s.fsm := rfl
@[simp] theorem State.pending_sb (a : HostAccess) (rest : List HostAccess) : (s.pending a rest).sb = s.sb := rfl
@[simp] theorem State.pending_grp (a : HostAccess) (rest : List HostAccess) : (s.pending a rest).grp = s.grp := rfl
@[simp] theorem State.pending_inCur (a : HostAccess) (rest : List HostAccess) : (s.pending a rest).inCur = s.inCur := rfl
@[simp] theorem State.pending_outCur (a : HostAccess) (rest : List HostAccess) : (s.pending a rest).outCur = s.outCur := rfl
@[simp] theorem State.pending_extRd (a : HostAccess) (rest : List HostAccess) : (s.pending a rest).extRd = s.extRd := rfl
@[simp] theorem State.pending_extWr (a : HostAccess) (rest : List HostAccess) : (s.pending a rest).extWr = s.extWr := rfl
@[simp] theorem State.pending_ws (a : HostAccess) (rest : List HostAccess) : (s.pending a rest).ws = s.ws := rfl
@[simp] theorem State.pending_cfg (a : HostAccess) (rest : List HostAccess) : (s.pending a rest).cfg = s.cfg := rfl
@[simp] theorem State.pending_ext (a : HostAccess) (rest : List HostAccess) : (s.pending a rest).ext = s.ext := rfl
@[simp] theorem State.pending_host (a : HostAccess) (rest : List HostAccess) : (s.pending a rest).host = a :: rest := rfl
@[simp] theorem State.pending_rdata (a : HostAccess) (rest : List HostAccess) : (s.pending a rest).rdata = s.rdata := rfl
@[simp] theorem State.pending_epoch (a : HostAccess) (rest : List HostAccess) : (s.pending a rest).epoch = s.epoch := rfl
@[simp] theorem State.pending_draws (a : HostAccess) (rest : List HostAccess) : (s.pending a rest).draws = s.draws := rfl

/-! The pending accesses replaced -/

@[simp] theorem State.withHost_faulted (rest : List HostAccess) : (s.withHost rest).faulted = s.faulted := rfl
@[simp] theorem State.withHost_lastOk (rest : List HostAccess) : (s.withHost rest).lastOk = s.lastOk := rfl
@[simp] theorem State.withHost_cause (rest : List HostAccess) : (s.withHost rest).cause = s.cause := rfl
@[simp] theorem State.withHost_info (rest : List HostAccess) : (s.withHost rest).info = s.info := rfl
@[simp] theorem State.withHost_a0 (rest : List HostAccess) : (s.withHost rest).a0 = s.a0 := rfl
@[simp] theorem State.withHost_a1 (rest : List HostAccess) : (s.withHost rest).a1 = s.a1 := rfl
@[simp] theorem State.withHost_a2 (rest : List HostAccess) : (s.withHost rest).a2 = s.a2 := rfl
@[simp] theorem State.withHost_a3 (rest : List HostAccess) : (s.withHost rest).a3 = s.a3 := rfl
@[simp] theorem State.withHost_res (rest : List HostAccess) : (s.withHost rest).res = s.res := rfl
@[simp] theorem State.withHost_phase (rest : List HostAccess) : (s.withHost rest).phase = s.phase := rfl
@[simp] theorem State.withHost_slotNew (rest : List HostAccess) : (s.withHost rest).slotNew = s.slotNew := rfl
@[simp] theorem State.withHost_slotPrev (rest : List HostAccess) : (s.withHost rest).slotPrev = s.slotPrev := rfl
@[simp] theorem State.withHost_g0 (rest : List HostAccess) : (s.withHost rest).g0 = s.g0 := rfl
@[simp] theorem State.withHost_g1 (rest : List HostAccess) : (s.withHost rest).g1 = s.g1 := rfl
@[simp] theorem State.withHost_v (rest : List HostAccess) : (s.withHost rest).v = s.v := rfl
@[simp] theorem State.withHost_fsm (rest : List HostAccess) : (s.withHost rest).fsm = s.fsm := rfl
@[simp] theorem State.withHost_sb (rest : List HostAccess) : (s.withHost rest).sb = s.sb := rfl
@[simp] theorem State.withHost_grp (rest : List HostAccess) : (s.withHost rest).grp = s.grp := rfl
@[simp] theorem State.withHost_inCur (rest : List HostAccess) : (s.withHost rest).inCur = s.inCur := rfl
@[simp] theorem State.withHost_outCur (rest : List HostAccess) : (s.withHost rest).outCur = s.outCur := rfl
@[simp] theorem State.withHost_extRd (rest : List HostAccess) : (s.withHost rest).extRd = s.extRd := rfl
@[simp] theorem State.withHost_extWr (rest : List HostAccess) : (s.withHost rest).extWr = s.extWr := rfl
@[simp] theorem State.withHost_ws (rest : List HostAccess) : (s.withHost rest).ws = s.ws := rfl
@[simp] theorem State.withHost_cfg (rest : List HostAccess) : (s.withHost rest).cfg = s.cfg := rfl
@[simp] theorem State.withHost_ext (rest : List HostAccess) : (s.withHost rest).ext = s.ext := rfl
@[simp] theorem State.withHost_host (rest : List HostAccess) : (s.withHost rest).host = rest := rfl
@[simp] theorem State.withHost_rdata (rest : List HostAccess) : (s.withHost rest).rdata = s.rdata := rfl
@[simp] theorem State.withHost_epoch (rest : List HostAccess) : (s.withHost rest).epoch = s.epoch := rfl
@[simp] theorem State.withHost_draws (rest : List HostAccess) : (s.withHost rest).draws = s.draws := rfl

/-! The data of a read -/

@[simp] theorem State.respond_faulted (d : Word) : (s.respond d).faulted = s.faulted := rfl
@[simp] theorem State.respond_lastOk (d : Word) : (s.respond d).lastOk = s.lastOk := rfl
@[simp] theorem State.respond_cause (d : Word) : (s.respond d).cause = s.cause := rfl
@[simp] theorem State.respond_info (d : Word) : (s.respond d).info = s.info := rfl
@[simp] theorem State.respond_a0 (d : Word) : (s.respond d).a0 = s.a0 := rfl
@[simp] theorem State.respond_a1 (d : Word) : (s.respond d).a1 = s.a1 := rfl
@[simp] theorem State.respond_a2 (d : Word) : (s.respond d).a2 = s.a2 := rfl
@[simp] theorem State.respond_a3 (d : Word) : (s.respond d).a3 = s.a3 := rfl
@[simp] theorem State.respond_res (d : Word) : (s.respond d).res = s.res := rfl
@[simp] theorem State.respond_phase (d : Word) : (s.respond d).phase = s.phase := rfl
@[simp] theorem State.respond_slotNew (d : Word) : (s.respond d).slotNew = s.slotNew := rfl
@[simp] theorem State.respond_slotPrev (d : Word) : (s.respond d).slotPrev = s.slotPrev := rfl
@[simp] theorem State.respond_g0 (d : Word) : (s.respond d).g0 = s.g0 := rfl
@[simp] theorem State.respond_g1 (d : Word) : (s.respond d).g1 = s.g1 := rfl
@[simp] theorem State.respond_v (d : Word) : (s.respond d).v = s.v := rfl
@[simp] theorem State.respond_fsm (d : Word) : (s.respond d).fsm = s.fsm := rfl
@[simp] theorem State.respond_sb (d : Word) : (s.respond d).sb = s.sb := rfl
@[simp] theorem State.respond_grp (d : Word) : (s.respond d).grp = s.grp := rfl
@[simp] theorem State.respond_inCur (d : Word) : (s.respond d).inCur = s.inCur := rfl
@[simp] theorem State.respond_outCur (d : Word) : (s.respond d).outCur = s.outCur := rfl
@[simp] theorem State.respond_extRd (d : Word) : (s.respond d).extRd = s.extRd := rfl
@[simp] theorem State.respond_extWr (d : Word) : (s.respond d).extWr = s.extWr := rfl
@[simp] theorem State.respond_ws (d : Word) : (s.respond d).ws = s.ws := rfl
@[simp] theorem State.respond_cfg (d : Word) : (s.respond d).cfg = s.cfg := rfl
@[simp] theorem State.respond_ext (d : Word) : (s.respond d).ext = s.ext := rfl
@[simp] theorem State.respond_host (d : Word) : (s.respond d).host = s.host := rfl
@[simp] theorem State.respond_rdata (d : Word) : (s.respond d).rdata = d := rfl
@[simp] theorem State.respond_epoch (d : Word) : (s.respond d).epoch = s.epoch := rfl
@[simp] theorem State.respond_draws (d : Word) : (s.respond d).draws = s.draws := rfl

/-! A response the platform decides -/

@[simp] theorem State.respondFree_faulted : (s.respondFree).faulted = s.faulted := rfl
@[simp] theorem State.respondFree_lastOk : (s.respondFree).lastOk = s.lastOk := rfl
@[simp] theorem State.respondFree_cause : (s.respondFree).cause = s.cause := rfl
@[simp] theorem State.respondFree_info : (s.respondFree).info = s.info := rfl
@[simp] theorem State.respondFree_a0 : (s.respondFree).a0 = s.a0 := rfl
@[simp] theorem State.respondFree_a1 : (s.respondFree).a1 = s.a1 := rfl
@[simp] theorem State.respondFree_a2 : (s.respondFree).a2 = s.a2 := rfl
@[simp] theorem State.respondFree_a3 : (s.respondFree).a3 = s.a3 := rfl
@[simp] theorem State.respondFree_res : (s.respondFree).res = s.res := rfl
@[simp] theorem State.respondFree_phase : (s.respondFree).phase = s.phase := rfl
@[simp] theorem State.respondFree_slotNew : (s.respondFree).slotNew = s.slotNew := rfl
@[simp] theorem State.respondFree_slotPrev : (s.respondFree).slotPrev = s.slotPrev := rfl
@[simp] theorem State.respondFree_g0 : (s.respondFree).g0 = s.g0 := rfl
@[simp] theorem State.respondFree_g1 : (s.respondFree).g1 = s.g1 := rfl
@[simp] theorem State.respondFree_v : (s.respondFree).v = s.v := rfl
@[simp] theorem State.respondFree_fsm : (s.respondFree).fsm = s.fsm := rfl
@[simp] theorem State.respondFree_sb : (s.respondFree).sb = s.sb := rfl
@[simp] theorem State.respondFree_grp : (s.respondFree).grp = s.grp := rfl
@[simp] theorem State.respondFree_inCur : (s.respondFree).inCur = s.inCur := rfl
@[simp] theorem State.respondFree_outCur : (s.respondFree).outCur = s.outCur := rfl
@[simp] theorem State.respondFree_extRd : (s.respondFree).extRd = s.extRd := rfl
@[simp] theorem State.respondFree_extWr : (s.respondFree).extWr = s.extWr := rfl
@[simp] theorem State.respondFree_ws : (s.respondFree).ws = s.ws := rfl
@[simp] theorem State.respondFree_cfg : (s.respondFree).cfg = s.cfg := rfl
@[simp] theorem State.respondFree_ext : (s.respondFree).ext = s.ext := rfl
@[simp] theorem State.respondFree_host : (s.respondFree).host = s.host := rfl
@[simp] theorem State.respondFree_rdata : (s.respondFree).rdata = Config.freeBus s.draws := rfl
@[simp] theorem State.respondFree_epoch : (s.respondFree).epoch = s.epoch := rfl
@[simp] theorem State.respondFree_draws : (s.respondFree).draws = s.draws + 1 := rfl

/-! The phase rotation (46_frame_driver.md rule R131) -/

@[simp] theorem State.rotatePhase_faulted : (s.rotatePhase).faulted = s.faulted := rfl
@[simp] theorem State.rotatePhase_lastOk : (s.rotatePhase).lastOk = s.lastOk := rfl
@[simp] theorem State.rotatePhase_cause : (s.rotatePhase).cause = s.cause := rfl
@[simp] theorem State.rotatePhase_info : (s.rotatePhase).info = s.info := rfl
@[simp] theorem State.rotatePhase_a0 : (s.rotatePhase).a0 = s.a0 := rfl
@[simp] theorem State.rotatePhase_a1 : (s.rotatePhase).a1 = s.a1 := rfl
@[simp] theorem State.rotatePhase_a2 : (s.rotatePhase).a2 = s.a2 := rfl
@[simp] theorem State.rotatePhase_a3 : (s.rotatePhase).a3 = s.a3 := rfl
@[simp] theorem State.rotatePhase_res : (s.rotatePhase).res = s.res := rfl
@[simp] theorem State.rotatePhase_phase : (s.rotatePhase).phase = s.phase - 1 := rfl
@[simp] theorem State.rotatePhase_slotNew : (s.rotatePhase).slotNew = s.slotNew := rfl
@[simp] theorem State.rotatePhase_slotPrev : (s.rotatePhase).slotPrev = s.slotPrev := rfl
@[simp] theorem State.rotatePhase_g0 : (s.rotatePhase).g0 = s.g0 := rfl
@[simp] theorem State.rotatePhase_g1 : (s.rotatePhase).g1 = s.g1 := rfl
@[simp] theorem State.rotatePhase_v : (s.rotatePhase).v = s.v := rfl
@[simp] theorem State.rotatePhase_fsm : (s.rotatePhase).fsm = s.fsm := rfl
@[simp] theorem State.rotatePhase_sb : (s.rotatePhase).sb = s.sb := rfl
@[simp] theorem State.rotatePhase_grp : (s.rotatePhase).grp = s.grp := rfl
@[simp] theorem State.rotatePhase_inCur : (s.rotatePhase).inCur = s.inCur := rfl
@[simp] theorem State.rotatePhase_outCur : (s.rotatePhase).outCur = s.outCur := rfl
@[simp] theorem State.rotatePhase_extRd : (s.rotatePhase).extRd = s.extRd := rfl
@[simp] theorem State.rotatePhase_extWr : (s.rotatePhase).extWr = s.extWr := rfl
@[simp] theorem State.rotatePhase_ws : (s.rotatePhase).ws = s.ws := rfl
@[simp] theorem State.rotatePhase_cfg : (s.rotatePhase).cfg = s.cfg := rfl
@[simp] theorem State.rotatePhase_ext : (s.rotatePhase).ext = s.ext := rfl
@[simp] theorem State.rotatePhase_host : (s.rotatePhase).host = s.host := rfl
@[simp] theorem State.rotatePhase_rdata : (s.rotatePhase).rdata = s.rdata := rfl
@[simp] theorem State.rotatePhase_epoch : (s.rotatePhase).epoch = s.epoch := rfl
@[simp] theorem State.rotatePhase_draws : (s.rotatePhase).draws = s.draws := rfl

/-! The slot mutation (rule R132) -/

@[simp] theorem State.mutateSlots_faulted : (s.mutateSlots).faulted = s.faulted := rfl
@[simp] theorem State.mutateSlots_lastOk : (s.mutateSlots).lastOk = s.lastOk := rfl
@[simp] theorem State.mutateSlots_cause : (s.mutateSlots).cause = s.cause := rfl
@[simp] theorem State.mutateSlots_info : (s.mutateSlots).info = s.info := rfl
@[simp] theorem State.mutateSlots_a0 : (s.mutateSlots).a0 = s.a0 := rfl
@[simp] theorem State.mutateSlots_a1 : (s.mutateSlots).a1 = s.a1 := rfl
@[simp] theorem State.mutateSlots_a2 : (s.mutateSlots).a2 = s.a2 := rfl
@[simp] theorem State.mutateSlots_a3 : (s.mutateSlots).a3 = s.a3 := rfl
@[simp] theorem State.mutateSlots_res : (s.mutateSlots).res = s.res := rfl
@[simp] theorem State.mutateSlots_phase : (s.mutateSlots).phase = s.phase := rfl
@[simp] theorem State.mutateSlots_slotNew : (s.mutateSlots).slotNew = mutateSlot s.slotNew s.phase := rfl
@[simp] theorem State.mutateSlots_slotPrev : (s.mutateSlots).slotPrev = mutateSlot s.slotPrev s.phase := rfl
@[simp] theorem State.mutateSlots_g0 : (s.mutateSlots).g0 = s.g0 := rfl
@[simp] theorem State.mutateSlots_g1 : (s.mutateSlots).g1 = s.g1 := rfl
@[simp] theorem State.mutateSlots_v : (s.mutateSlots).v = s.v := rfl
@[simp] theorem State.mutateSlots_fsm : (s.mutateSlots).fsm = s.fsm := rfl
@[simp] theorem State.mutateSlots_sb : (s.mutateSlots).sb = s.sb := rfl
@[simp] theorem State.mutateSlots_grp : (s.mutateSlots).grp = s.grp := rfl
@[simp] theorem State.mutateSlots_inCur : (s.mutateSlots).inCur = s.inCur := rfl
@[simp] theorem State.mutateSlots_outCur : (s.mutateSlots).outCur = s.outCur := rfl
@[simp] theorem State.mutateSlots_extRd : (s.mutateSlots).extRd = s.extRd := rfl
@[simp] theorem State.mutateSlots_extWr : (s.mutateSlots).extWr = s.extWr := rfl
@[simp] theorem State.mutateSlots_ws : (s.mutateSlots).ws = s.ws := rfl
@[simp] theorem State.mutateSlots_cfg : (s.mutateSlots).cfg = s.cfg := rfl
@[simp] theorem State.mutateSlots_ext : (s.mutateSlots).ext = s.ext := rfl
@[simp] theorem State.mutateSlots_host : (s.mutateSlots).host = s.host := rfl
@[simp] theorem State.mutateSlots_rdata : (s.mutateSlots).rdata = s.rdata := rfl
@[simp] theorem State.mutateSlots_epoch : (s.mutateSlots).epoch = s.epoch := rfl
@[simp] theorem State.mutateSlots_draws : (s.mutateSlots).draws = s.draws := rfl

/-! The slot swap (rule R133) -/

@[simp] theorem State.swapSlots_faulted : (s.swapSlots).faulted = s.faulted := rfl
@[simp] theorem State.swapSlots_lastOk : (s.swapSlots).lastOk = s.lastOk := rfl
@[simp] theorem State.swapSlots_cause : (s.swapSlots).cause = s.cause := rfl
@[simp] theorem State.swapSlots_info : (s.swapSlots).info = s.info := rfl
@[simp] theorem State.swapSlots_a0 : (s.swapSlots).a0 = s.a0 := rfl
@[simp] theorem State.swapSlots_a1 : (s.swapSlots).a1 = s.a1 := rfl
@[simp] theorem State.swapSlots_a2 : (s.swapSlots).a2 = s.a2 := rfl
@[simp] theorem State.swapSlots_a3 : (s.swapSlots).a3 = s.a3 := rfl
@[simp] theorem State.swapSlots_res : (s.swapSlots).res = s.res := rfl
@[simp] theorem State.swapSlots_phase : (s.swapSlots).phase = s.phase := rfl
@[simp] theorem State.swapSlots_slotNew : (s.swapSlots).slotNew = s.slotPrev := rfl
@[simp] theorem State.swapSlots_slotPrev : (s.swapSlots).slotPrev = s.slotNew := rfl
@[simp] theorem State.swapSlots_g0 : (s.swapSlots).g0 = s.g0 := rfl
@[simp] theorem State.swapSlots_g1 : (s.swapSlots).g1 = s.g1 := rfl
@[simp] theorem State.swapSlots_v : (s.swapSlots).v = s.v := rfl
@[simp] theorem State.swapSlots_fsm : (s.swapSlots).fsm = s.fsm := rfl
@[simp] theorem State.swapSlots_sb : (s.swapSlots).sb = s.sb := rfl
@[simp] theorem State.swapSlots_grp : (s.swapSlots).grp = s.grp := rfl
@[simp] theorem State.swapSlots_inCur : (s.swapSlots).inCur = s.inCur := rfl
@[simp] theorem State.swapSlots_outCur : (s.swapSlots).outCur = s.outCur := rfl
@[simp] theorem State.swapSlots_extRd : (s.swapSlots).extRd = s.extRd := rfl
@[simp] theorem State.swapSlots_extWr : (s.swapSlots).extWr = s.extWr := rfl
@[simp] theorem State.swapSlots_ws : (s.swapSlots).ws = s.ws := rfl
@[simp] theorem State.swapSlots_cfg : (s.swapSlots).cfg = s.cfg := rfl
@[simp] theorem State.swapSlots_ext : (s.swapSlots).ext = s.ext := rfl
@[simp] theorem State.swapSlots_host : (s.swapSlots).host = s.host := rfl
@[simp] theorem State.swapSlots_rdata : (s.swapSlots).rdata = s.rdata := rfl
@[simp] theorem State.swapSlots_epoch : (s.swapSlots).epoch = s.epoch := rfl
@[simp] theorem State.swapSlots_draws : (s.swapSlots).draws = s.draws := rfl

/-! A group's work on the workspace (rule R130) -/

@[simp] theorem State.groupWork_faulted (I O : Nat) : (s.groupWork I O).faulted = s.faulted := rfl
@[simp] theorem State.groupWork_lastOk (I O : Nat) : (s.groupWork I O).lastOk = s.lastOk := rfl
@[simp] theorem State.groupWork_cause (I O : Nat) : (s.groupWork I O).cause = s.cause := rfl
@[simp] theorem State.groupWork_info (I O : Nat) : (s.groupWork I O).info = s.info := rfl
@[simp] theorem State.groupWork_a0 (I O : Nat) : (s.groupWork I O).a0 = s.a0 := rfl
@[simp] theorem State.groupWork_a1 (I O : Nat) : (s.groupWork I O).a1 = s.a1 := rfl
@[simp] theorem State.groupWork_a2 (I O : Nat) : (s.groupWork I O).a2 = s.a2 := rfl
@[simp] theorem State.groupWork_a3 (I O : Nat) : (s.groupWork I O).a3 = s.a3 := rfl
@[simp] theorem State.groupWork_res (I O : Nat) : (s.groupWork I O).res = s.res := rfl
@[simp] theorem State.groupWork_phase (I O : Nat) : (s.groupWork I O).phase = s.phase := rfl
@[simp] theorem State.groupWork_slotNew (I O : Nat) : (s.groupWork I O).slotNew = s.slotNew := rfl
@[simp] theorem State.groupWork_slotPrev (I O : Nat) : (s.groupWork I O).slotPrev = s.slotPrev := rfl
@[simp] theorem State.groupWork_g0 (I O : Nat) : (s.groupWork I O).g0 = s.g0 := rfl
@[simp] theorem State.groupWork_g1 (I O : Nat) : (s.groupWork I O).g1 = s.g1 := rfl
@[simp] theorem State.groupWork_v (I O : Nat) : (s.groupWork I O).v = s.v := rfl
@[simp] theorem State.groupWork_fsm (I O : Nat) : (s.groupWork I O).fsm = s.fsm := rfl
@[simp] theorem State.groupWork_sb (I O : Nat) : (s.groupWork I O).sb = s.sb := rfl
@[simp] theorem State.groupWork_grp (I O : Nat) : (s.groupWork I O).grp = s.grp := rfl
@[simp] theorem State.groupWork_inCur (I O : Nat) : (s.groupWork I O).inCur = s.inCur := rfl
@[simp] theorem State.groupWork_outCur (I O : Nat) : (s.groupWork I O).outCur = s.outCur := rfl
@[simp] theorem State.groupWork_extRd (I O : Nat) : (s.groupWork I O).extRd = s.extRd := rfl
@[simp] theorem State.groupWork_extWr (I O : Nat) : (s.groupWork I O).extWr = s.extWr := rfl
@[simp] theorem State.groupWork_ws (I O : Nat) : (s.groupWork I O).ws = groupWorkspace s.cfg s.epoch s.ws I O s.phase s.slotNew s.slotPrev s.g0 s.g1 := rfl
@[simp] theorem State.groupWork_cfg (I O : Nat) : (s.groupWork I O).cfg = s.cfg := rfl
@[simp] theorem State.groupWork_ext (I O : Nat) : (s.groupWork I O).ext = s.ext := rfl
@[simp] theorem State.groupWork_host (I O : Nat) : (s.groupWork I O).host = s.host := rfl
@[simp] theorem State.groupWork_rdata (I O : Nat) : (s.groupWork I O).rdata = s.rdata := rfl
@[simp] theorem State.groupWork_epoch (I O : Nat) : (s.groupWork I O).epoch = s.epoch := rfl
@[simp] theorem State.groupWork_draws (I O : Nat) : (s.groupWork I O).draws = s.draws := rfl

/-! A frame's start (rule R127) -/

@[simp] theorem State.decodeInit_faulted (E p0 : Word) : (s.decodeInit E p0).faulted = s.faulted := rfl
@[simp] theorem State.decodeInit_lastOk (E p0 : Word) : (s.decodeInit E p0).lastOk = s.lastOk := rfl
@[simp] theorem State.decodeInit_cause (E p0 : Word) : (s.decodeInit E p0).cause = s.cause := rfl
@[simp] theorem State.decodeInit_info (E p0 : Word) : (s.decodeInit E p0).info = s.info := rfl
@[simp] theorem State.decodeInit_a0 (E p0 : Word) : (s.decodeInit E p0).a0 = s.a0 := rfl
@[simp] theorem State.decodeInit_a1 (E p0 : Word) : (s.decodeInit E p0).a1 = s.a1 := rfl
@[simp] theorem State.decodeInit_a2 (E p0 : Word) : (s.decodeInit E p0).a2 = s.a2 := rfl
@[simp] theorem State.decodeInit_a3 (E p0 : Word) : (s.decodeInit E p0).a3 = s.a3 := rfl
@[simp] theorem State.decodeInit_res (E p0 : Word) : (s.decodeInit E p0).res = s.res := rfl
@[simp] theorem State.decodeInit_phase (E p0 : Word) : (s.decodeInit E p0).phase = p0.setWidth 4 := rfl
@[simp] theorem State.decodeInit_slotNew (E p0 : Word) : (s.decodeInit E p0).slotNew = s.cfg.slotA := rfl
@[simp] theorem State.decodeInit_slotPrev (E p0 : Word) : (s.decodeInit E p0).slotPrev = s.cfg.slotB := rfl
@[simp] theorem State.decodeInit_g0 (E p0 : Word) : (s.decodeInit E p0).g0 = s.g0 := rfl
@[simp] theorem State.decodeInit_g1 (E p0 : Word) : (s.decodeInit E p0).g1 = s.g1 := rfl
@[simp] theorem State.decodeInit_v (E p0 : Word) : (s.decodeInit E p0).v = s.v := rfl
@[simp] theorem State.decodeInit_fsm (E p0 : Word) : (s.decodeInit E p0).fsm = .headerRead := rfl
@[simp] theorem State.decodeInit_sb (E p0 : Word) : (s.decodeInit E p0).sb = 0 := rfl
@[simp] theorem State.decodeInit_grp (E p0 : Word) : (s.decodeInit E p0).grp = s.grp := rfl
@[simp] theorem State.decodeInit_inCur (E p0 : Word) : (s.decodeInit E p0).inCur = s.inCur := rfl
@[simp] theorem State.decodeInit_outCur (E p0 : Word) : (s.decodeInit E p0).outCur = s.outCur := rfl
@[simp] theorem State.decodeInit_extRd (E p0 : Word) : (s.decodeInit E p0).extRd = E + 8 := rfl
@[simp] theorem State.decodeInit_extWr (E p0 : Word) : (s.decodeInit E p0).extWr = E := rfl
@[simp] theorem State.decodeInit_ws (E p0 : Word) : (s.decodeInit E p0).ws = s.ws := rfl
@[simp] theorem State.decodeInit_cfg (E p0 : Word) : (s.decodeInit E p0).cfg = s.cfg := rfl
@[simp] theorem State.decodeInit_ext (E p0 : Word) : (s.decodeInit E p0).ext = s.ext := rfl
@[simp] theorem State.decodeInit_host (E p0 : Word) : (s.decodeInit E p0).host = s.host := rfl
@[simp] theorem State.decodeInit_rdata (E p0 : Word) : (s.decodeInit E p0).rdata = s.rdata := rfl
@[simp] theorem State.decodeInit_epoch (E p0 : Word) : (s.decodeInit E p0).epoch = s.epoch := rfl
@[simp] theorem State.decodeInit_draws (E p0 : Word) : (s.decodeInit E p0).draws = s.draws := rfl

/-! HeaderRead (rule R128) -/

@[simp] theorem State.headerRead_faulted (E : Word) : (s.headerRead E).faulted = s.faulted := rfl
@[simp] theorem State.headerRead_lastOk (E : Word) : (s.headerRead E).lastOk = s.lastOk := rfl
@[simp] theorem State.headerRead_cause (E : Word) : (s.headerRead E).cause = s.cause := rfl
@[simp] theorem State.headerRead_info (E : Word) : (s.headerRead E).info = s.info := rfl
@[simp] theorem State.headerRead_a0 (E : Word) : (s.headerRead E).a0 = s.a0 := rfl
@[simp] theorem State.headerRead_a1 (E : Word) : (s.headerRead E).a1 = s.a1 := rfl
@[simp] theorem State.headerRead_a2 (E : Word) : (s.headerRead E).a2 = s.a2 := rfl
@[simp] theorem State.headerRead_a3 (E : Word) : (s.headerRead E).a3 = s.a3 := rfl
@[simp] theorem State.headerRead_res (E : Word) : (s.headerRead E).res = s.res := rfl
@[simp] theorem State.headerRead_phase (E : Word) : (s.headerRead E).phase = s.phase := rfl
@[simp] theorem State.headerRead_slotNew (E : Word) : (s.headerRead E).slotNew = s.slotNew := rfl
@[simp] theorem State.headerRead_slotPrev (E : Word) : (s.headerRead E).slotPrev = s.slotPrev := rfl
@[simp] theorem State.headerRead_g0 (E : Word) : (s.headerRead E).g0 = sampleAt s.epoch (copyIn s.ws s.ext s.cfg.hdrOff.toNat E.toNat 8) s.cfg.hdrOff.toNat := rfl
@[simp] theorem State.headerRead_g1 (E : Word) : (s.headerRead E).g1 = sampleAt s.epoch (copyIn s.ws s.ext s.cfg.hdrOff.toNat E.toNat 8) (s.cfg.hdrOff.toNat + 4) := rfl
@[simp] theorem State.headerRead_v (E : Word) : (s.headerRead E).v = s.v := rfl
@[simp] theorem State.headerRead_fsm (E : Word) : (s.headerRead E).fsm = .subBlockLoad := rfl
@[simp] theorem State.headerRead_sb (E : Word) : (s.headerRead E).sb = s.sb := rfl
@[simp] theorem State.headerRead_grp (E : Word) : (s.headerRead E).grp = s.grp := rfl
@[simp] theorem State.headerRead_inCur (E : Word) : (s.headerRead E).inCur = s.inCur := rfl
@[simp] theorem State.headerRead_outCur (E : Word) : (s.headerRead E).outCur = s.outCur := rfl
@[simp] theorem State.headerRead_extRd (E : Word) : (s.headerRead E).extRd = s.extRd := rfl
@[simp] theorem State.headerRead_extWr (E : Word) : (s.headerRead E).extWr = s.extWr := rfl
@[simp] theorem State.headerRead_ws (E : Word) : (s.headerRead E).ws = copyIn s.ws s.ext s.cfg.hdrOff.toNat E.toNat 8 := rfl
@[simp] theorem State.headerRead_cfg (E : Word) : (s.headerRead E).cfg = s.cfg := rfl
@[simp] theorem State.headerRead_ext (E : Word) : (s.headerRead E).ext = s.ext := rfl
@[simp] theorem State.headerRead_host (E : Word) : (s.headerRead E).host = s.host := rfl
@[simp] theorem State.headerRead_rdata (E : Word) : (s.headerRead E).rdata = s.rdata := rfl
@[simp] theorem State.headerRead_epoch (E : Word) : (s.headerRead E).epoch = s.epoch := rfl
@[simp] theorem State.headerRead_draws (E : Word) : (s.headerRead E).draws = s.draws := rfl

/-! SubBlockLoad (rule R129) -/

@[simp] theorem State.subBlockLoad_faulted : (s.subBlockLoad).faulted = s.faulted := rfl
@[simp] theorem State.subBlockLoad_lastOk : (s.subBlockLoad).lastOk = s.lastOk := rfl
@[simp] theorem State.subBlockLoad_cause : (s.subBlockLoad).cause = s.cause := rfl
@[simp] theorem State.subBlockLoad_info : (s.subBlockLoad).info = s.info := rfl
@[simp] theorem State.subBlockLoad_a0 : (s.subBlockLoad).a0 = s.a0 := rfl
@[simp] theorem State.subBlockLoad_a1 : (s.subBlockLoad).a1 = s.a1 := rfl
@[simp] theorem State.subBlockLoad_a2 : (s.subBlockLoad).a2 = s.a2 := rfl
@[simp] theorem State.subBlockLoad_a3 : (s.subBlockLoad).a3 = s.a3 := rfl
@[simp] theorem State.subBlockLoad_res : (s.subBlockLoad).res = s.res := rfl
@[simp] theorem State.subBlockLoad_phase : (s.subBlockLoad).phase = s.phase := rfl
@[simp] theorem State.subBlockLoad_slotNew : (s.subBlockLoad).slotNew = s.slotNew := rfl
@[simp] theorem State.subBlockLoad_slotPrev : (s.subBlockLoad).slotPrev = s.slotPrev := rfl
@[simp] theorem State.subBlockLoad_g0 : (s.subBlockLoad).g0 = s.g0 := rfl
@[simp] theorem State.subBlockLoad_g1 : (s.subBlockLoad).g1 = s.g1 := rfl
@[simp] theorem State.subBlockLoad_v : (s.subBlockLoad).v = s.v := rfl
@[simp] theorem State.subBlockLoad_fsm : (s.subBlockLoad).fsm = .groupLoop := rfl
@[simp] theorem State.subBlockLoad_sb : (s.subBlockLoad).sb = s.sb := rfl
@[simp] theorem State.subBlockLoad_grp : (s.subBlockLoad).grp = 0 := rfl
@[simp] theorem State.subBlockLoad_inCur : (s.subBlockLoad).inCur = s.cfg.inOff := rfl
@[simp] theorem State.subBlockLoad_outCur : (s.subBlockLoad).outCur = s.cfg.outOff := rfl
@[simp] theorem State.subBlockLoad_extRd : (s.subBlockLoad).extRd = s.extRd + 0x180 := rfl
@[simp] theorem State.subBlockLoad_extWr : (s.subBlockLoad).extWr = s.extWr := rfl
@[simp] theorem State.subBlockLoad_ws : (s.subBlockLoad).ws = copyIn s.ws s.ext s.cfg.inOff.toNat s.extRd.toNat 0x180 := by simp only [State.subBlockLoad]
@[simp] theorem State.subBlockLoad_cfg : (s.subBlockLoad).cfg = s.cfg := rfl
@[simp] theorem State.subBlockLoad_ext : (s.subBlockLoad).ext = s.ext := rfl
@[simp] theorem State.subBlockLoad_host : (s.subBlockLoad).host = s.host := rfl
@[simp] theorem State.subBlockLoad_rdata : (s.subBlockLoad).rdata = s.rdata := rfl
@[simp] theorem State.subBlockLoad_epoch : (s.subBlockLoad).epoch = s.epoch := rfl
@[simp] theorem State.subBlockLoad_draws : (s.subBlockLoad).draws = s.draws := rfl

/-! The group body (rule R130); what it makes of the rest is `groupBody_eq` -/

@[simp] theorem State.groupBody_faulted (I O : Nat) : (s.groupBody I O).faulted = s.faulted := by
  rw [groupBody_eq]
@[simp] theorem State.groupBody_lastOk (I O : Nat) : (s.groupBody I O).lastOk = s.lastOk := by
  rw [groupBody_eq]
@[simp] theorem State.groupBody_cause (I O : Nat) : (s.groupBody I O).cause = s.cause := by
  rw [groupBody_eq]
@[simp] theorem State.groupBody_info (I O : Nat) : (s.groupBody I O).info = s.info := by
  rw [groupBody_eq]
@[simp] theorem State.groupBody_a0 (I O : Nat) : (s.groupBody I O).a0 = s.a0 := by
  rw [groupBody_eq]
@[simp] theorem State.groupBody_a1 (I O : Nat) : (s.groupBody I O).a1 = s.a1 := by
  rw [groupBody_eq]
@[simp] theorem State.groupBody_a2 (I O : Nat) : (s.groupBody I O).a2 = s.a2 := by
  rw [groupBody_eq]
@[simp] theorem State.groupBody_a3 (I O : Nat) : (s.groupBody I O).a3 = s.a3 := by
  rw [groupBody_eq]
@[simp] theorem State.groupBody_res (I O : Nat) : (s.groupBody I O).res = s.res := by
  rw [groupBody_eq]
@[simp] theorem State.groupBody_phase (I O : Nat) : (s.groupBody I O).phase = s.phase - 1 := by
  rw [groupBody_eq]
@[simp] theorem State.groupBody_g0 (I O : Nat) : (s.groupBody I O).g0 = s.g0 := by
  rw [groupBody_eq]
@[simp] theorem State.groupBody_g1 (I O : Nat) : (s.groupBody I O).g1 = s.g1 := by
  rw [groupBody_eq]
@[simp] theorem State.groupBody_v (I O : Nat) : (s.groupBody I O).v = s.v := by
  rw [groupBody_eq]
@[simp] theorem State.groupBody_fsm (I O : Nat) : (s.groupBody I O).fsm = s.fsm := by
  rw [groupBody_eq]
@[simp] theorem State.groupBody_sb (I O : Nat) : (s.groupBody I O).sb = s.sb := by
  rw [groupBody_eq]
@[simp] theorem State.groupBody_grp (I O : Nat) : (s.groupBody I O).grp = s.grp := by
  rw [groupBody_eq]
@[simp] theorem State.groupBody_inCur (I O : Nat) : (s.groupBody I O).inCur = s.inCur := by
  rw [groupBody_eq]
@[simp] theorem State.groupBody_outCur (I O : Nat) : (s.groupBody I O).outCur = s.outCur := by
  rw [groupBody_eq]
@[simp] theorem State.groupBody_extRd (I O : Nat) : (s.groupBody I O).extRd = s.extRd := by
  rw [groupBody_eq]
@[simp] theorem State.groupBody_extWr (I O : Nat) : (s.groupBody I O).extWr = s.extWr := by
  rw [groupBody_eq]
@[simp] theorem State.groupBody_cfg (I O : Nat) : (s.groupBody I O).cfg = s.cfg := by
  rw [groupBody_eq]
@[simp] theorem State.groupBody_ext (I O : Nat) : (s.groupBody I O).ext = s.ext := by
  rw [groupBody_eq]
@[simp] theorem State.groupBody_host (I O : Nat) : (s.groupBody I O).host = s.host := by
  rw [groupBody_eq]
@[simp] theorem State.groupBody_rdata (I O : Nat) : (s.groupBody I O).rdata = s.rdata := by
  rw [groupBody_eq]
@[simp] theorem State.groupBody_epoch (I O : Nat) : (s.groupBody I O).epoch = s.epoch := by
  rw [groupBody_eq]
@[simp] theorem State.groupBody_draws (I O : Nat) : (s.groupBody I O).draws = s.draws := by
  rw [groupBody_eq]

/-! A turn of GroupLoop (rules R124, R133) -/

@[simp] theorem State.groupTurn_faulted : (s.groupTurn).faulted = s.faulted :=
  State.groupBody_faulted s _ _
@[simp] theorem State.groupTurn_lastOk : (s.groupTurn).lastOk = s.lastOk :=
  State.groupBody_lastOk s _ _
@[simp] theorem State.groupTurn_cause : (s.groupTurn).cause = s.cause :=
  State.groupBody_cause s _ _
@[simp] theorem State.groupTurn_info : (s.groupTurn).info = s.info :=
  State.groupBody_info s _ _
@[simp] theorem State.groupTurn_a0 : (s.groupTurn).a0 = s.a0 :=
  State.groupBody_a0 s _ _
@[simp] theorem State.groupTurn_a1 : (s.groupTurn).a1 = s.a1 :=
  State.groupBody_a1 s _ _
@[simp] theorem State.groupTurn_a2 : (s.groupTurn).a2 = s.a2 :=
  State.groupBody_a2 s _ _
@[simp] theorem State.groupTurn_a3 : (s.groupTurn).a3 = s.a3 :=
  State.groupBody_a3 s _ _
@[simp] theorem State.groupTurn_res : (s.groupTurn).res = s.res :=
  State.groupBody_res s _ _
@[simp] theorem State.groupTurn_phase : (s.groupTurn).phase = s.phase - 1 :=
  State.groupBody_phase s _ _
@[simp] theorem State.groupTurn_slotNew : (s.groupTurn).slotNew = (s.groupBody s.inCur.toNat s.outCur.toNat).slotNew := rfl
@[simp] theorem State.groupTurn_slotPrev : (s.groupTurn).slotPrev = (s.groupBody s.inCur.toNat s.outCur.toNat).slotPrev := rfl
@[simp] theorem State.groupTurn_g0 : (s.groupTurn).g0 = s.g0 :=
  State.groupBody_g0 s _ _
@[simp] theorem State.groupTurn_g1 : (s.groupTurn).g1 = s.g1 :=
  State.groupBody_g1 s _ _
@[simp] theorem State.groupTurn_v : (s.groupTurn).v = s.v :=
  State.groupBody_v s _ _
@[simp] theorem State.groupTurn_fsm : (s.groupTurn).fsm = s.fsm :=
  State.groupBody_fsm s _ _
@[simp] theorem State.groupTurn_sb : (s.groupTurn).sb = s.sb :=
  State.groupBody_sb s _ _
@[simp] theorem State.groupTurn_grp : (s.groupTurn).grp = s.grp + 1 := by
  show State.grp (State.groupBody _ _ s) + _ = _
  simp
@[simp] theorem State.groupTurn_inCur : (s.groupTurn).inCur = s.inCur + 0x40 := by
  show State.inCur (State.groupBody _ _ s) + _ = _
  simp
@[simp] theorem State.groupTurn_outCur : (s.groupTurn).outCur = s.outCur + 0x40 := by
  show State.outCur (State.groupBody _ _ s) + _ = _
  simp
@[simp] theorem State.groupTurn_extRd : (s.groupTurn).extRd = s.extRd :=
  State.groupBody_extRd s _ _
@[simp] theorem State.groupTurn_extWr : (s.groupTurn).extWr = s.extWr :=
  State.groupBody_extWr s _ _
@[simp] theorem State.groupTurn_ws : (s.groupTurn).ws = (s.groupBody s.inCur.toNat s.outCur.toNat).ws := rfl
@[simp] theorem State.groupTurn_cfg : (s.groupTurn).cfg = s.cfg :=
  State.groupBody_cfg s _ _
@[simp] theorem State.groupTurn_ext : (s.groupTurn).ext = s.ext :=
  State.groupBody_ext s _ _
@[simp] theorem State.groupTurn_host : (s.groupTurn).host = s.host :=
  State.groupBody_host s _ _
@[simp] theorem State.groupTurn_rdata : (s.groupTurn).rdata = s.rdata :=
  State.groupBody_rdata s _ _
@[simp] theorem State.groupTurn_epoch : (s.groupTurn).epoch = s.epoch :=
  State.groupBody_epoch s _ _
@[simp] theorem State.groupTurn_draws : (s.groupTurn).draws = s.draws :=
  State.groupBody_draws s _ _

/-! GroupLoop left (rule R124) -/

@[simp] theorem State.groupsDone_faulted : (s.groupsDone).faulted = s.faulted := rfl
@[simp] theorem State.groupsDone_lastOk : (s.groupsDone).lastOk = s.lastOk := rfl
@[simp] theorem State.groupsDone_cause : (s.groupsDone).cause = s.cause := rfl
@[simp] theorem State.groupsDone_info : (s.groupsDone).info = s.info := rfl
@[simp] theorem State.groupsDone_a0 : (s.groupsDone).a0 = s.a0 := rfl
@[simp] theorem State.groupsDone_a1 : (s.groupsDone).a1 = s.a1 := rfl
@[simp] theorem State.groupsDone_a2 : (s.groupsDone).a2 = s.a2 := rfl
@[simp] theorem State.groupsDone_a3 : (s.groupsDone).a3 = s.a3 := rfl
@[simp] theorem State.groupsDone_res : (s.groupsDone).res = s.res := rfl
@[simp] theorem State.groupsDone_phase : (s.groupsDone).phase = s.phase := rfl
@[simp] theorem State.groupsDone_slotNew : (s.groupsDone).slotNew = s.slotNew := rfl
@[simp] theorem State.groupsDone_slotPrev : (s.groupsDone).slotPrev = s.slotPrev := rfl
@[simp] theorem State.groupsDone_g0 : (s.groupsDone).g0 = s.g0 := rfl
@[simp] theorem State.groupsDone_g1 : (s.groupsDone).g1 = s.g1 := rfl
@[simp] theorem State.groupsDone_v : (s.groupsDone).v = s.v := rfl
@[simp] theorem State.groupsDone_fsm : (s.groupsDone).fsm = .subBlockStore := rfl
@[simp] theorem State.groupsDone_sb : (s.groupsDone).sb = s.sb := rfl
@[simp] theorem State.groupsDone_grp : (s.groupsDone).grp = s.grp := rfl
@[simp] theorem State.groupsDone_inCur : (s.groupsDone).inCur = s.inCur := rfl
@[simp] theorem State.groupsDone_outCur : (s.groupsDone).outCur = s.outCur := rfl
@[simp] theorem State.groupsDone_extRd : (s.groupsDone).extRd = s.extRd := rfl
@[simp] theorem State.groupsDone_extWr : (s.groupsDone).extWr = s.extWr := rfl
@[simp] theorem State.groupsDone_ws : (s.groupsDone).ws = s.ws := rfl
@[simp] theorem State.groupsDone_cfg : (s.groupsDone).cfg = s.cfg := rfl
@[simp] theorem State.groupsDone_ext : (s.groupsDone).ext = s.ext := rfl
@[simp] theorem State.groupsDone_host : (s.groupsDone).host = s.host := rfl
@[simp] theorem State.groupsDone_rdata : (s.groupsDone).rdata = s.rdata := rfl
@[simp] theorem State.groupsDone_epoch : (s.groupsDone).epoch = s.epoch := rfl
@[simp] theorem State.groupsDone_draws : (s.groupsDone).draws = s.draws := rfl

/-! SubBlockStore (rule R135) -/

@[simp] theorem State.subBlockStore_faulted : (s.subBlockStore).faulted = s.faulted := rfl
@[simp] theorem State.subBlockStore_lastOk : (s.subBlockStore).lastOk = s.lastOk := rfl
@[simp] theorem State.subBlockStore_cause : (s.subBlockStore).cause = s.cause := rfl
@[simp] theorem State.subBlockStore_info : (s.subBlockStore).info = s.info := rfl
@[simp] theorem State.subBlockStore_a0 : (s.subBlockStore).a0 = s.a0 := rfl
@[simp] theorem State.subBlockStore_a1 : (s.subBlockStore).a1 = s.a1 := rfl
@[simp] theorem State.subBlockStore_a2 : (s.subBlockStore).a2 = s.a2 := rfl
@[simp] theorem State.subBlockStore_a3 : (s.subBlockStore).a3 = s.a3 := rfl
@[simp] theorem State.subBlockStore_res : (s.subBlockStore).res = s.res := rfl
@[simp] theorem State.subBlockStore_phase : (s.subBlockStore).phase = s.phase := rfl
@[simp] theorem State.subBlockStore_slotNew : (s.subBlockStore).slotNew = s.slotNew := rfl
@[simp] theorem State.subBlockStore_slotPrev : (s.subBlockStore).slotPrev = s.slotPrev := rfl
@[simp] theorem State.subBlockStore_g0 : (s.subBlockStore).g0 = s.g0 := rfl
@[simp] theorem State.subBlockStore_g1 : (s.subBlockStore).g1 = s.g1 := rfl
@[simp] theorem State.subBlockStore_v : (s.subBlockStore).v = s.v := rfl
@[simp] theorem State.subBlockStore_fsm : (s.subBlockStore).fsm = if s.sb + 1 < 3 then .subBlockLoad else .done := rfl
@[simp] theorem State.subBlockStore_sb : (s.subBlockStore).sb = s.sb + 1 := rfl
@[simp] theorem State.subBlockStore_grp : (s.subBlockStore).grp = s.grp := rfl
@[simp] theorem State.subBlockStore_inCur : (s.subBlockStore).inCur = s.inCur := rfl
@[simp] theorem State.subBlockStore_outCur : (s.subBlockStore).outCur = s.outCur := rfl
@[simp] theorem State.subBlockStore_extRd : (s.subBlockStore).extRd = s.extRd := rfl
@[simp] theorem State.subBlockStore_extWr : (s.subBlockStore).extWr = s.extWr + 0x180 := rfl
@[simp] theorem State.subBlockStore_ws : (s.subBlockStore).ws = s.ws := rfl
@[simp] theorem State.subBlockStore_cfg : (s.subBlockStore).cfg = s.cfg := rfl
@[simp] theorem State.subBlockStore_ext : (s.subBlockStore).ext = copyOut s.extSize s.ext s.epoch s.ws s.extWr.toNat s.cfg.outOff.toNat 0x180 := by simp only [State.subBlockStore]
@[simp] theorem State.subBlockStore_host : (s.subBlockStore).host = s.host := rfl
@[simp] theorem State.subBlockStore_rdata : (s.subBlockStore).rdata = s.rdata := rfl
@[simp] theorem State.subBlockStore_epoch : (s.subBlockStore).epoch = s.epoch := rfl
@[simp] theorem State.subBlockStore_draws : (s.subBlockStore).draws = s.draws := rfl

/-! Done (rule R136) -/

@[simp] theorem State.frameDone_faulted : (s.frameDone).faulted = s.faulted := rfl
@[simp] theorem State.frameDone_lastOk : (s.frameDone).lastOk = s.lastOk := rfl
@[simp] theorem State.frameDone_cause : (s.frameDone).cause = s.cause := rfl
@[simp] theorem State.frameDone_info : (s.frameDone).info = s.info := rfl
@[simp] theorem State.frameDone_a0 : (s.frameDone).a0 = s.a0 := rfl
@[simp] theorem State.frameDone_a1 : (s.frameDone).a1 = s.a1 := rfl
@[simp] theorem State.frameDone_a2 : (s.frameDone).a2 = s.a2 := rfl
@[simp] theorem State.frameDone_a3 : (s.frameDone).a3 = s.a3 := rfl
@[simp] theorem State.frameDone_res : (s.frameDone).res = s.res := rfl
@[simp] theorem State.frameDone_phase : (s.frameDone).phase = s.phase := rfl
@[simp] theorem State.frameDone_slotNew : (s.frameDone).slotNew = s.slotNew := rfl
@[simp] theorem State.frameDone_slotPrev : (s.frameDone).slotPrev = s.slotPrev := rfl
@[simp] theorem State.frameDone_g0 : (s.frameDone).g0 = s.g0 := rfl
@[simp] theorem State.frameDone_g1 : (s.frameDone).g1 = s.g1 := rfl
@[simp] theorem State.frameDone_v : (s.frameDone).v = s.v := rfl
@[simp] theorem State.frameDone_fsm : (s.frameDone).fsm = .idle := rfl
@[simp] theorem State.frameDone_sb : (s.frameDone).sb = s.sb := rfl
@[simp] theorem State.frameDone_grp : (s.frameDone).grp = s.grp := rfl
@[simp] theorem State.frameDone_inCur : (s.frameDone).inCur = s.inCur := rfl
@[simp] theorem State.frameDone_outCur : (s.frameDone).outCur = s.outCur := rfl
@[simp] theorem State.frameDone_extRd : (s.frameDone).extRd = s.extRd := rfl
@[simp] theorem State.frameDone_extWr : (s.frameDone).extWr = s.extWr := rfl
@[simp] theorem State.frameDone_ws : (s.frameDone).ws = s.ws := rfl
@[simp] theorem State.frameDone_cfg : (s.frameDone).cfg = s.cfg := rfl
@[simp] theorem State.frameDone_ext : (s.frameDone).ext = s.ext := rfl
@[simp] theorem State.frameDone_host : (s.frameDone).host = s.host := rfl
@[simp] theorem State.frameDone_rdata : (s.frameDone).rdata = s.rdata := rfl
@[simp] theorem State.frameDone_epoch : (s.frameDone).epoch = s.epoch := rfl
@[simp] theorem State.frameDone_draws : (s.frameDone).draws = s.draws := rfl

/-- The first fault since reset (60_exceptions.md rules R144, R145): a fault recorded, nothing else changed. -/
theorem State.enterFault_of_not_faulted {s : State} (h : s.faulted = false) (c : Cause) (info : Word) :
    s.enterFault c info = s.faultedWith c info := by
  simp [State.enterFault, State.faultedWith, h]

/-- A later fault changes nothing but `LAST_OK`: the first fault's record stays (rules R145, R146). -/
theorem State.enterFault_of_faulted {s : State} (h : s.faulted = true) (c : Cause) (info : Word) :
    s.enterFault c info = { s with lastOk := false } := by
  cases s
  simp_all [State.enterFault]

/-- The memories right after any reset are in canonical form when the external memory kept is (10_state.md rule R45). -/
theorem State.afterReset_memories (c : Config) (e : Nat) (ext : Memory) (host : List HostAccess) (rdata : Word) (draws : Nat)
    (h : ext.wf = true) :
    (State.afterReset c e ext host rdata draws).ws.wf = true ∧ (State.afterReset c e ext host rdata draws).ext.wf = true :=
  ⟨rfl, h⟩

/-- The memories at power-on are in canonical form. -/
theorem State.reset_memories : State.reset.ws.wf = true ∧ State.reset.ext.wf = true :=
  State.afterReset_memories _ _ _ _ _ _ rfl

end

end Sys2Proof.Machine
end

