-- ==== Sys2Proof/Laws/Step.lean ====
section
/-! SUPPORT. What one step can do: it is refused, it holds, or it is the oldest pending access. -/

namespace Sys2Proof.Machine

/-- Under a configuration that is not well formed every step is refused (20_memory.md rule R60). -/
theorem step_of_badConfig {s : State} (h : s.cfg.wellFormed = false) : step s = .refused .badConfig := by
  simp [step, h]

/-- A step is the oldest pending access, taken off the list. -/
theorem step_pending {s : State} (h : s.cfg.wellFormed = true) (a : HostAccess) (rest : List HostAccess) :
    step (s.pending a rest) = hostAccess a (s.withHost rest) := by
  simp [step, State.pending, State.withHost, hostTurn, h]

/-- Everything a step that answers a next state can do: nothing was pending and nothing changed, or the oldest pending
access was made. -/
theorem step_cases {s t : State} (h : step s = .next t) :
    s.cfg.wellFormed = true ∧
    ((s.host = [] ∧ t = s) ∨ ∃ a rest, s.host = a :: rest ∧ hostAccess a (s.withHost rest) = .next t) := by
  by_cases hw : s.cfg.wellFormed = true
  · refine ⟨hw, ?_⟩
    simp only [step, hw, if_true, hostTurn] at h
    cases hh : s.host with
    | nil =>
      rw [hh] at h
      exact .inl ⟨rfl, by simpa using h.symm⟩
    | cons a rest =>
      rw [hh] at h
      exact .inr ⟨a, rest, rfl, h⟩
  · simp [step, hw] at h

/-- What issuing a word can do (30_encoding.md rule R68): refused while a fault is recorded, a fault if the word is illegal,
else the command. -/
theorem issue_cases (w : Word) (s : State) :
    (s.faulted = true ∧ issue w s = .next { s with lastOk := false }) ∨
    (s.faulted = false ∧ (∃ e, decode w = .error e) ∧ issue w s = .next (s.faultedWith .illegalCommand w)) ∨
    (s.faulted = false ∧ ∃ i, decode w = .ok i ∧ issue w s = exec i s) := by
  cases hf : s.faulted with
  | true => exact .inl ⟨rfl, by simp [issue, hf]⟩
  | false =>
    cases hd : decode w with
    | error e =>
      refine .inr (.inl ⟨rfl, ⟨e, rfl⟩, ?_⟩)
      simp [issue, hf, hd, State.enterFault_of_not_faulted hf]
    | ok i => exact .inr (.inr ⟨rfl, i, rfl, by simp [issue, hf, hd]⟩)

/-- Everything a 32-bit write in the window can do (10_state.md rule R46): at `CMD` it issues, at another register it is that
register's write, elsewhere it is ignored. -/
theorem hostWrite_cases (off : BitVec 7) (d : Word) (s : State) :
    (regAt off = some .cmd ∧ hostWrite off d s = issue d s) ∨
    (∃ r, r ≠ .cmd ∧ regAt off = some r ∧ hostWrite off d s = .next (s.writeReg r d)) ∨
    (regAt off = none ∧ hostWrite off d s = .next s) := by
  cases hr : regAt off with
  | none => exact .inr (.inr ⟨rfl, by simp [hostWrite, hr]⟩)
  | some r =>
    by_cases hc : r = .cmd
    · subst hc
      exact .inl ⟨rfl, by simp [hostWrite, hr]⟩
    · refine .inr (.inl ⟨r, hc, rfl, ?_⟩)
      cases r <;> simp_all [hostWrite]

end Sys2Proof.Machine
end

