-- ==== Sys2Proof/Tests/Slice0.lean ====
section
/-! SUPPORT. Tests on fixed values, and for each statement with hypotheses a state and operands that meet them. Expected
values are those of the spec: the examples in its rules and the vectors of 95_test_vectors.md (named in each comment). -/

namespace Sys2Proof.Tests

open Sys2Proof.Machine

/-! ### Helpers -/

/-- A window table by its entries. -/
def table (f : Nat → Half) : Vector Half 1056 := ⟨((List.range 1056).map f).toArray, by simp⟩

/-- The configuration of 95_test_vectors.md section 0: the defaults, the test table, 0x10000 external bytes. -/
def testConfig : Config :=
  { Config.defaults with
    dewin := table fun i => BitVec.ofInt 16 (61 * (i : Int) - 32000)
    extSize := 0x10000
    hostBase := 0x40000000 }

/-- The machine after reset under that configuration. -/
def start : State := State.afterReset testConfig 0 [] [] 0 0

/-- The operands written. -/
def operands (a0 a1 a2 : Word) : State := { start with a0 := a0, a1 := a1, a2 := a2 }

/-- The next state of an outcome. -/
def after (o : Out) : State :=
  match o with
  | .next t => t
  | _ => start

/-- Samples written from an offset on. -/
def withSamples (s : State) (o : Nat) (values : List Int) : State :=
  { s with ws := putSamples s.ws (values.zipIdx.map fun v => (o + 2 * v.2, BitVec.ofInt 32 v.1)) }

/-- The samples at offsets that start at `o` and rise by `d`. -/
def samplesAt (s : State) (o d n : Nat) : List Int := (List.range n).map fun i => (s.sample (o + d * i)).toInt

/-- What a fault leaves: `STATUS`, `FAULT_CAUSE`, `FAULT_INFO`. -/
def report (o : Out) : Word × Word × Word := ((after o).statusWord, (after o).causeWord, (after o).info)

/-! ### Well-formedness: an ill-formed term for each check -/

theorem test_instr_wellFormed : Instr.wellFormed .decode = true := by decide
theorem test_reservedClear_refuses : reservedClear 0x01000001#32 = false := by decide
theorem test_defaults_wellFormed : Config.defaults.wellFormed = true ∧ Config.defaults.layoutEven = true := by decide
theorem test_slotsAligned_refuses :
    ({ testConfig with slotA := 0x8B0 } : Config).slotsAligned = false ∧
    ({ testConfig with slotA := 0x8B0 } : Config).wellFormed = false := by decide
theorem test_regionsInside_refuses :
    ({ testConfig with outOff := 0xE80 } : Config).regionsInside = false ∧
    ({ testConfig with outOff := 0xE80 } : Config).wellFormed = false := by decide
theorem test_regionsApart_refuses :
    ({ testConfig with slotB := 0xAA0 } : Config).regionsApart = false ∧
    ({ testConfig with slotB := 0xAA0 } : Config).wellFormed = false := by decide
theorem test_pairMatching_refuses :
    ({ testConfig with pairHi := testConfig.pairHi.set 0 30 } : Config).pairMatching = false ∧
    ({ testConfig with pairHi := testConfig.pairHi.set 0 30 } : Config).wellFormed = false := by decide
theorem test_layoutEven_fails :
    ({ testConfig with hdrOff := 0x101 } : Config).layoutEven = false ∧
    ({ testConfig with hdrOff := 0x101 } : Config).wellFormed = true := by decide
theorem test_badConfig_step : step { start with cfg := { testConfig with slotB := 0xAA0 } } = .refused .badConfig := rfl

/-! ### Decoding: each command's word written out bit by bit from rules R66 and R71 -/

theorem test_decode_primitives :
    decode 0b00000001_000000000000000000000000#32 = .ok .sat16 ∧
    decode 0b00000010_000000000000000000000000#32 = .ok .mulsh ∧
    decode 0b00000011_000000000000000000000000#32 = .ok .rdot ∧
    decode 0b00000100_000000000000000000000000#32 = .ok .gmul := by decide
theorem test_decode_workspace :
    decode 0b00010000_000000000000000000000000#32 = .ok .bload ∧
    decode 0b00010001_000000000000000000000000#32 = .ok .bstore ∧
    decode 0b00010010_000000000000000000000000#32 = .ok .srd ∧
    decode 0b00010011_000000000000000000000000#32 = .ok .swr := by decide
theorem test_decode_stages :
    decode 0b00100000_000000000000000000000000#32 = .ok .bfly ∧
    decode 0b00100001_000000000000000000000000#32 = .ok .synth ∧
    decode 0b00100010_000000000000000000000000#32 = .ok .window ∧
    decode 0b00100011_000000000000000000000000#32 = .ok .gain := by decide
theorem test_decode_frame :
    decode 0b00110000_000000000000000000000000#32 = .ok .group ∧
    decode 0b00110001_000000000000000000000000#32 = .ok .decode := by decide
theorem test_decode_illegal :
    decode 0x00000000#32 = .error .unassignedOp ∧ decode 0x32000000#32 = .error .unassignedOp ∧
    decode 0x24000000#32 = .error .unassignedOp ∧ decode 0x31800000#32 = .error .reservedBits := by decide
theorem test_decodeTableWord : decodeTableWord 32 0x23000000 = some .gain ∧ decodeTableWord 32 0x23000001 = none := by
  decide
theorem test_step_runs_from_reset :
    (after (step (State.reset.withFetchWord 32 0x01000000))).statusWord = 2 := by decide

/-! ### One step of each command (95_test_vectors.md sections 2 to 8) -/

theorem test_sat16_clamps_high : (after (exec .sat16 (operands 40000 0 0))).res = 0x00007FFF := by decide
theorem test_sat16_clamps_low : (after (exec .sat16 (operands (-32769) 0 0))).res = 0xFFFF8000 := by decide
theorem test_mulsh_wide_product : (after (exec .mulsh (operands 100000 46340 0))).res = 0x00011435 := by decide
theorem test_mulsh_wrap32 :
    (after (exec .mulsh { operands 40000 (-65220) 0 with cfg := { testConfig with mulshMode := .wrap32 } })).res =
      0x00006480 := by decide
theorem test_rdot_tie_rounds_up : (after (exec .rdot (operands (-1) 16384 0))).res = 0x00000000 := by decide
theorem test_rdot_outside_sixteen_bits : (after (exec .rdot (operands 0x8000 0x8000 0))).res = 0x00008000 := by decide
theorem test_gmul_negates_the_least : (after (exec .gmul (operands 0x8000 0xFFFF 0))).res = 0x00007FFF := by decide
theorem test_gmul_saturates_low : (after (exec .gmul (operands (-16385) 2 0))).res = 0xFFFF8000 := by decide

/-- The example of rule R88. -/
theorem test_bload_example :
    (after (exec .bload { operands 0x100 0x20 4 with
      ext := [(0x100, 0x12), (0x101, 0x34), (0x102, 0xAB), (0x103, 0xCD)] })).ws =
      [(0x20, 0x12), (0x21, 0x34), (0x22, 0xAB), (0x23, 0xCD)] := by decide
/-- Section 8, row 13: both ranges violated. -/
theorem test_bload_range_order : report (exec .bload (operands 0xFFF0 4095 2)) = (1, 3, 0x00000FFF) := by decide
/-- The example of rule R89. -/
theorem test_bstore_example :
    (after (exec .bstore (withSamples (operands 0x40 0x200 2) 0x40 [0x1234]))).ext = [(0x200, 0x12), (0x201, 0x34)] := by
  decide
/-- Section 8, row 15. -/
theorem test_bstore_range : report (exec .bstore (operands 0 0x10000 1)) = (1, 4, 0x00010000) := by decide
/-- Section 3, row 4. -/
theorem test_srd_extends_sign :
    (after (exec .srd { operands 0x102 0 0 with ws := [(0x102, 0x80), (0x103, 0x00)] })).res = 0xFFFF8000 := by decide
/-- Section 8, row 7. -/
theorem test_srd_range : report (exec .srd (operands 4096 0 0)) = (1, 3, 0x00001000) := by decide
/-- Section 3, row 3. -/
theorem test_swr_big_endian : (after (exec .swr (operands 0x104 0x00012345 0))).ws = [(0x104, 0x23), (0x105, 0x45)] := by
  decide
/-- Section 8, row 9. -/
theorem test_swr_misaligned_first : report (exec .swr (operands 4095 1 0)) = (1, 2, 0x00000FFF) := by decide

/-- Section 4, the unit vector of lane 8 under EXACT. -/
theorem test_bfly_unit_lane_8 :
    (after (exec .bfly { start with v := (Vector.replicate 16 0).set 8 65536 })).v.toList.map BitVec.toInt =
      [65536, 46340, 60548, 85626, 64276, 90899, 118766, 167959,
       -65220, -92235, -120514, -170432, -127934, -180926, -236396, -334314] := by decide +kernel
/-- Section 4, lane sums that wrap. -/
theorem test_bfly_wraps :
    (after (exec .bfly { start with v := Vector.replicate 16 0x7FFFFFFF })).v = (Vector.replicate 16 0).set 0 (-16) := by
  decide +kernel

/-- Section 5, vector T6: the rows of the NEW slot. -/
theorem test_synth_new_rows :
    samplesAt (after (exec .synth (withSamples (operands 0x100 0x400 0x800) 0x100
      ((List.range 32).map fun k => if k % 2 = 0 then -32768 else 32767)))) 0x400 0x20 16 =
      [0, -2888, 0, -30212, 0, 9050, 0, -1638, 0, 2773, 0, 20856, 0, -536, 0, -32547] := by decide +kernel
/-- Section 5, vector T6: the rows of the PREV slot. -/
theorem test_synth_prev_rows :
    samplesAt (after (exec .synth (withSamples (operands 0x100 0x400 0x800) 0x100
      ((List.range 32).map fun k => if k % 2 = 0 then -32768 else 32767)))) 0x800 0x20 17 =
      [0, -23930, 0, 18393, 0, 4343, 0, -30056, 0, -12342, 0, 6173, 0, -32489, 0, 8676, 16] := by decide +kernel

/-- Section 6, p = 5: row r of the history, `Hist(r, k) = 1000r - 300k + 7`, is what one output of each half and the
crossover read. -/
def windowRow (r : Nat) : State :=
  withSamples (operands 5 0x8AA 0xE70) (0x8A0 + 0x20 * r)
    ((List.range 16).map fun k => 1000 * (r : Int) - 300 * (k : Int) + 7)

/-- Section 6, p = 5 under EVEN_TAPS: the first output, the crossover and the one after it. -/
theorem test_window_outputs :
    ((after (exec .window (windowRow 0))).sample 0xE70).toInt = -31913 ∧
    ((after (exec .window (windowRow 16))).sample 0xE90).toInt = 1027 ∧
    ((after (exec .window (windowRow 15))).sample 0xE92).toInt = -26 := by decide +kernel
/-- Section 8, row 20: BAD_PHASE before MISALIGNED. -/
theorem test_window_phase_first : report (exec .window (operands 16 0x8A0 0xE71)) = (1, 5, 0x00000010) := by decide

/-- Section 7, row 1. -/
theorem test_gain_example :
    samplesAt (after (exec .gain (withSamples (operands 0x100 3 2) 0x100 [100, -20000, 32767]))) 0x100 2 3 =
      [200, -32768, 32767] := by decide
/-- Section 7, row 2: the sample after the range is untouched. -/
theorem test_gain_stops_at_its_count :
    samplesAt (after (exec .gain (withSamples (operands 0x100 5 0xFFFF) 0x100 [-32768, 32767, 1, -1, 16384, 9])))
      0x100 2 6 = [32767, -32767, -1, 1, -16384, 9] := by decide

/-- Program 3: the registers after the group. -/
theorem test_group_registers :
    (after (exec .group (operands 0xCF0 0xE70 0))).phase = 15 ∧
    (after (exec .group (operands 0xCF0 0xE70 0))).slotNew = 0xADE ∧
    (after (exec .group (operands 0xCF0 0xE70 0))).slotPrev = 0x8BE := by decide +kernel
/-- Section 8, row 31: the slot register's value is recorded. -/
theorem test_group_slot_range :
    report (exec .group { operands 0xCF0 0xE70 0 with slotNew := 0xFFFF }) = (1, 3, 0x0000FFFF) := by decide

/-- Program 1: the registers after the frame. -/
theorem test_decode_registers :
    (after (exec .decode (operands 0x1000 7 0))).phase = 5 ∧
    (after (exec .decode (operands 0x1000 7 0))).slotNew = 0x8AA ∧
    (after (exec .decode (operands 0x1000 7 0))).slotPrev = 0xACA := by decide +kernel
/-- Section 8, row 33, and under an odd layout the fault of rule R86, after BAD_PHASE and before EXT_RANGE (rule R143). -/
theorem test_decode_faults :
    report (exec .decode (operands 0xFB79 0 0)) = (1, 4, 0x0000FB79) ∧
    report (exec .decode { operands 0xFB79 0 0 with cfg := { testConfig with outOff := 0xE71 } }) = (1, 2, 0x00000E71) ∧
    report (exec .decode { operands 0xFB79 16 0 with cfg := { testConfig with outOff := 0xE71 } }) = (1, 5, 0x00000010) := by
  decide

/-! ### The host -/

/-- Program 2, lines 5, 8 and 10: an illegal word, a refused word, reset. -/
theorem test_illegal_word : report (step (start.withFetchWord 32 0x06000000)) = (1, 1, 0x06000000) := by decide
theorem test_refused_word :
    report (step ({ start with faulted := true, cause := .illegalCommand, info := 0x06000000 }.withFetchWord 32 0x05000000)) =
      (1, 1, 0x06000000) := by decide
theorem test_reset_clears :
    report (step ({ start with faulted := true, cause := .illegalCommand, info := 6 }.pending .reset [])) = (0, 0, 0) := by
  decide
/-- Program 2, line 7. -/
theorem test_phase_keeps_four_bits : (after (step (start.pending (.write 0x24 0x13) []))).phase = 3 := by decide
/-- The example of 30_encoding.md rule R76. -/
theorem test_script_example :
    (scriptLine "MULSH 3, 65536".toList).map ScriptLine.accesses =
      some [.write 0x10 3, .write 0x14 0x10000, .write 0x00 0x02000000] := by decide
theorem test_script_refuses : scriptLine "wr V16, 0".toList = none ∧ scriptLine "SRD 1, 2, 3, 4, 5".toList = none := by decide

/-! ### Witnesses: for each statement with hypotheses, states and operands that meet them together; for each of its clauses,
one at a boundary of the clause -/

theorem test_witness_StepRunsDecodedCommand :
    start.cfg.wellFormed = true ∧ start.faulted = false ∧ decode 0x31000000#32 = .ok .decode := by decide

theorem test_witness_IllegalWordRaisesFault :
    start.cfg.wellFormed = true ∧ start.faulted = false ∧
    (0x01000001#32).extractLsb' 0 24 ≠ 0#24 ∧
    (0x05000000#32).extractLsb' 24 8 ∉
      ([0x01, 0x02, 0x03, 0x04, 0x10, 0x11, 0x12, 0x13, 0x20, 0x21, 0x22, 0x23, 0x30, 0x31] : List (BitVec 8)) := by decide

/-- A state with a fault recorded. -/
def broken : State := start.faultedWith .illegalCommand 0x06000000

theorem test_witness_FaultedRefusesEveryCommand :
    broken.cfg.wellFormed = true ∧ broken.faulted = true ∧ regAt 0x7C = some (.v 15) ∧ HostReg.v 15 ≠ .cmd ∧
    regAt 0x04 = some .status ∧ HostReg.status ≠ .cmd ∧ regAt 0x00 = some .cmd := by decide

/-- The only hypothesis of HostWritesRegisters, HostReadsRegisters, AccessesToNoRegister and
ResetInputClearsState, and the offsets of their clauses at the ends of their ranges. -/
theorem test_witness_HostWritesRegisters :
    start.cfg.wellFormed = true ∧ BitVec.ofNat 7 (0x40 + 4 * (0 : Fin 16)) = 0x40 ∧
    BitVec.ofNat 7 (0x40 + 4 * (15 : Fin 16)) = 0x7C := by decide
theorem test_witness_HostReadsRegisters : start.cfg.wellFormed = true ∧ broken.cfg.wellFormed = true := by decide
theorem test_witness_AccessesToNoRegister :
    start.cfg.wellFormed = true ∧ (0x01 : BitVec 7).toNat % 4 ≠ 0 ∧ (0x7F : BitVec 7).toNat % 4 ≠ 0 := by decide
theorem test_witness_ResetInputClearsState : start.cfg.wellFormed = true ∧ broken.cfg.wellFormed = true := by decide

theorem test_witness_BusAccessThroughHostBase :
    start.cfg.wellFormed = true ∧ start.cfg.hostBase.toNat + 0x80 ≤ 4294967296 ∧
    (0x3FFFFFFF#32).toNat < start.cfg.hostBase.toNat ∧ start.cfg.hostBase.toNat + 0x80 ≤ (0x40000080#32).toNat := by decide

/-- The last address before the window and the first after it. -/
theorem test_witness_BusReadOutsideWindow :
    start.cfg.wellFormed = true ∧ start.cfg.hostBase.toNat + 0x80 ≤ 4294967296 ∧
    (0x3FFFFFFF#32).toNat < start.cfg.hostBase.toNat ∧
    start.cfg.hostBase.toNat + 0x80 ≤ (0x40000080#32).toNat := by decide

theorem test_witness_HostWritesExternalMemory :
    start.cfg.wellFormed = true ∧ (0xFFFF#32).toNat < start.extSize ∧ ¬ (0x10000#32).toNat < start.extSize := by decide

theorem test_witness_IdleHoldsAllState : start.cfg.wellFormed = true ∧ start.host = [] := by decide

theorem test_witness_BrokenLayoutIsRefused :
    ({ testConfig with slotA := 0x8A1 } : Config).slotA.toNat % 0x20 ≠ 0 ∧
    ({ testConfig with slotB := 0xAC1 } : Config).slotB.toNat % 0x20 ≠ 0 ∧
    ({ testConfig with slotA := 0xE00 } : Config).slotA.toNat + 0x220 > 4096 ∧
    ({ testConfig with slotB := 0xE00 } : Config).slotB.toNat + 0x220 > 4096 ∧
    ({ testConfig with hdrOff := 0xFF9 } : Config).hdrOff.toNat + 8 > 4096 ∧
    ({ testConfig with inOff := 0xE81 } : Config).inOff.toNat + 0x180 > 4096 ∧
    ({ testConfig with outOff := 0xE7F } : Config).outOff.toNat + 0x182 > 4096 ∧
    (let c : Config := { testConfig with slotB := 0xAA0 }
     overlap c.slotA.toNat 0x220 c.slotB.toNat 0x220) ∧
    (let c : Config := { testConfig with hdrOff := 0xABF }
     overlap c.slotA.toNat 0x220 c.hdrOff.toNat 8) ∧
    (let c : Config := { testConfig with inOff := 0x721 }
     overlap c.slotA.toNat 0x220 c.inOff.toNat 0x180) ∧
    (let c : Config := { testConfig with outOff := 0x71F }
     overlap c.slotA.toNat 0x220 c.outOff.toNat 0x182) ∧
    (let c : Config := { testConfig with hdrOff := 0xCDF }
     overlap c.slotB.toNat 0x220 c.hdrOff.toNat 8) ∧
    (let c : Config := { testConfig with inOff := 0xCDF }
     overlap c.slotB.toNat 0x220 c.inOff.toNat 0x180) ∧
    (let c : Config := { testConfig with outOff := 0xCDF }
     overlap c.slotB.toNat 0x220 c.outOff.toNat 0x182) ∧
    (let c : Config := { testConfig with hdrOff := 0xCE9 }
     overlap c.hdrOff.toNat 8 c.inOff.toNat 0x180) ∧
    (let c : Config := { testConfig with outOff := 0xCEF }
     overlap c.hdrOff.toNat 8 c.outOff.toNat 0x182) ∧
    (let c : Config := { testConfig with outOff := 0xE6F }
     overlap c.inOff.toNat 0x180 c.outOff.toNat 0x182) := by decide

/-- The clauses of Sat16Clamps: above, below, between, at the bounds. -/
theorem test_witness_Sat16Clamps :
    (32768#32).toInt > 32767 ∧ (BitVec.ofInt 32 (-32769)).toInt < -32768 ∧
    ¬ (32767#32).toInt > 32767 ∧ ¬ (BitVec.ofInt 32 (-32768)).toInt < -32768 := by decide

/-- The clauses of MulshFloorsTheProduct and MulshIdentityAndAgreement. -/
theorem test_witness_MulshIdentityAndAgreement :
    (operands 5 0 0).a1 = 0 ∧ (operands 5 65536 0).cfg.mulshMode = .exact ∧ (operands 5 65536 0).a1 = 65536 ∧
    ({ start with cfg := { testConfig with mulshMode := .wrap32 } } : State).cfg.mulshMode = .wrap32 ∧
    -2147483648 ≤ (0xFFFF8000#32).toInt * (65536#32).toInt ∧ (0xFFFF8000#32).toInt * (65536#32).toInt < 2147483648 := by
  decide

theorem test_witness_BloadCopiesOrFaults :
    start.faulted = false ∧ (operands 0 4095 2).a1.toNat + (operands 0 4095 2).a2.toNat > 4096 ∧
    ¬ (operands 0xFFF0 4079 0x11).a1.toNat + (operands 0xFFF0 4079 0x11).a2.toNat > 4096 ∧
    (operands 0xFFF0 4079 0x11).a0.toNat + (operands 0xFFF0 4079 0x11).a2.toNat > start.extSize ∧
    ¬ (operands 0x10000 4096 0).a1.toNat + (operands 0x10000 4096 0).a2.toNat > 4096 ∧
    ¬ (operands 0x10000 4096 0).a0.toNat + (operands 0x10000 4096 0).a2.toNat > start.extSize := by decide

theorem test_witness_BstoreCopiesOrFaults :
    start.faulted = false ∧ (operands 4095 0 2).a0.toNat + (operands 4095 0 2).a2.toNat > 4096 ∧
    ¬ (operands 4095 0x10000 1).a0.toNat + (operands 4095 0x10000 1).a2.toNat > 4096 ∧
    (operands 4095 0x10000 1).a1.toNat + (operands 4095 0x10000 1).a2.toNat > start.extSize ∧
    ¬ (operands 4095 0xFFFF 1).a0.toNat + (operands 4095 0xFFFF 1).a2.toNat > 4096 ∧
    ¬ (operands 4095 0xFFFF 1).a1.toNat + (operands 4095 0xFFFF 1).a2.toNat > start.extSize := by decide

/-- SrdReadsSampleOrFaults and SwrWritesSampleOrFaults: odd, out of range, the last legal offset. -/
theorem test_witness_SrdReadsSampleOrFaults :
    start.faulted = false ∧ (operands 4097 0 0).a0.toNat % 2 ≠ 0 ∧
    ¬ (operands 4096 0 0).a0.toNat % 2 ≠ 0 ∧ (operands 4096 0 0).a0.toNat + 2 > 4096 ∧
    ¬ (operands 4094 0 0).a0.toNat % 2 ≠ 0 ∧ ¬ (operands 4094 0 0).a0.toNat + 2 > 4096 := by decide
theorem test_witness_SrdAfterSwrReturnsValue :
    (operands 4094 0xFFFF8000 0).a0.toNat % 2 = 0 ∧ (operands 4094 0xFFFF8000 0).a0.toNat + 2 ≤ 4096 := by decide

theorem test_witness_CombineKeepsSumAndDifference :
    (0 : Fin 16) ≠ 8 ∧ (15 : Fin 16) ≠ 0 ∧ (15 : Fin 16) ≠ 8 := by decide
theorem test_witness_BflyOfZeroIsZero :
    ({ start with v := Vector.replicate 16 0 } : State).v = Vector.replicate 16 0 := rfl

theorem test_witness_SynthFaultsOrWritesItsRows :
    start.faulted = false ∧
    (operands 0x101 0x401 0x803).a0.toNat % 2 ≠ 0 ∧
    ((operands 0x100 0x401 0x803).a0.toNat % 2 = 0 ∧ (operands 0x100 0x401 0x803).a1.toNat % 2 ≠ 0) ∧
    ((operands 0xFC2 0x400 0x801).a1.toNat % 2 = 0 ∧ (operands 0xFC2 0x400 0x801).a2.toNat % 2 ≠ 0) ∧
    ((operands 0xFC2 0x400 0x800).a0.toNat % 2 = 0 ∧ (operands 0xFC2 0x400 0x800).a2.toNat % 2 = 0 ∧
      (operands 0xFC2 0x400 0x800).a0.toNat + 0x40 > 4096) ∧
    ((operands 0xFC0 0xE20 0x800).a0.toNat + 0x40 ≤ 4096 ∧ (operands 0xFC0 0xE20 0x800).a1.toNat + 0x1E2 > 4096) ∧
    ((operands 0xFC0 0xE1E 0xE00).a1.toNat + 0x1E2 ≤ 4096 ∧ (operands 0xFC0 0xE1E 0xE00).a2.toNat + 0x202 > 4096) ∧
    (operands 0xFC0 0xE1E 0xDFE).a2.toNat + 0x202 ≤ 4096 := by decide

/-- Both orders of the slots, at the closest they may lie, with the input before and after them. -/
theorem test_witness_SynthStoresClosedForms :
    (let s := operands 0xCE0 0x8BE 0xADE
     s.a0.toNat % 2 = 0 ∧ s.a1.toNat % 2 = 0 ∧ s.a2.toNat % 2 = 0 ∧
     s.a0.toNat + 0x40 ≤ 4096 ∧ s.a1.toNat + 0x1E2 ≤ 4096 ∧ s.a2.toNat + 0x202 ≤ 4096 ∧
     s.a1.toNat + 0x220 ≤ s.a2.toNat ∧ s.a1.toNat + 0x220 ≤ s.a0.toNat ∧ ¬ s.a2.toNat + 0x220 ≤ s.a0.toNat) ∧
    (let s := operands 0xCFE 0x8BE 0xADE
     s.a0.toNat % 2 = 0 ∧ s.a1.toNat % 2 = 0 ∧ s.a2.toNat % 2 = 0 ∧
     s.a0.toNat + 0x40 ≤ 4096 ∧ s.a1.toNat + 0x1E2 ≤ 4096 ∧ s.a2.toNat + 0x202 ≤ 4096 ∧
     s.a1.toNat + 0x220 ≤ s.a2.toNat ∧ s.a1.toNat + 0x220 ≤ s.a0.toNat ∧ s.a2.toNat + 0x220 ≤ s.a0.toNat) ∧
    (let s := operands 0 0x260 0x40
     s.a0.toNat % 2 = 0 ∧ s.a1.toNat % 2 = 0 ∧ s.a2.toNat % 2 = 0 ∧
     s.a0.toNat + 0x40 ≤ 4096 ∧ s.a1.toNat + 0x1E2 ≤ 4096 ∧ s.a2.toNat + 0x202 ≤ 4096 ∧
     s.a2.toNat + 0x220 ≤ s.a1.toNat ∧ s.a0.toNat + 0x40 ≤ s.a1.toNat ∧ s.a0.toNat + 0x40 ≤ s.a2.toNat) := by decide

/-- 32 zero samples at 0x100, the slots equal and over them. -/
def silentInput : State := withSamples (operands 0x100 0x100 0x100) 0x100 (List.replicate 32 0)

theorem test_witness_SynthOfZeroInputStoresZero :
    silentInput.a0.toNat % 2 = 0 ∧ silentInput.a1.toNat % 2 = 0 ∧ silentInput.a2.toNat % 2 = 0 ∧
    silentInput.a0.toNat + 0x40 ≤ 4096 ∧ silentInput.a1.toNat + 0x1E2 ≤ 4096 ∧ silentInput.a2.toNat + 0x202 ≤ 4096 ∧
    ∀ k < 32, silentInput.sample (silentInput.a0.toNat + 2 * k) = 0 := by decide +kernel

/-- The same state, whose slots and input overlap, and the first and the last of the 33 writes. -/
theorem test_witness_SynthWritesInOrder :
    silentInput.a0.toNat % 2 = 0 ∧ silentInput.a1.toNat % 2 = 0 ∧ silentInput.a2.toNat % 2 = 0 ∧
    silentInput.a0.toNat + 0x40 ≤ 4096 ∧ silentInput.a1.toNat + 0x1E2 ≤ 4096 ∧ silentInput.a2.toNat + 0x202 ≤ 4096 ∧
    ((evenOrder 0x100 0x100 start.v ++ oddOrder 0x100 0x100 start.v)[0]?).map (·.1) = some 0x100 ∧
    ((evenOrder 0x100 0x100 start.v ++ oddOrder 0x100 0x100 start.v)[32]?).map (·.1) = some 0x1A0 ∧
    ((evenOrder 0x100 0x100 start.v ++ oddOrder 0x100 0x100 start.v)[33]?).map (·.1) = none := by decide

theorem test_witness_WindowFaultsOrWritesItsRange :
    start.faulted = false ∧ (operands 16 0x8A0 0xE71).a0.toNat ≥ 16 ∧
    (¬ (operands 15 0x10000 0xE71).a0.toNat ≥ 16 ∧ (operands 15 0x10000 0xE71).a2.toNat % 2 ≠ 0) ∧
    (¬ (operands 15 0x10000 0xE70).a2.toNat % 2 ≠ 0 ∧ (operands 15 0x10000 0xE70).a1.toNat ≥ 0x10000) ∧
    (¬ (operands 15 0xE00 0xE70).a1.toNat ≥ 0x10000 ∧ (operands 15 0xE00 0xE70).a1.toNat / 32 * 32 + 0x220 > 4096) ∧
    (¬ (operands 15 0xDFF 0xFC0).a1.toNat / 32 * 32 + 0x220 > 4096 ∧ (operands 15 0xDFF 0xFC0).a2.toNat + 0x42 > 4096) ∧
    ¬ (operands 15 0xDFF 0xFBE).a2.toNat + 0x42 > 4096 := by decide

/-- Both parities of the phase, the output just before and just after the slot. -/
theorem test_witness_WindowStoresRoundedSums :
    (let s := operands 15 0x8BF 0x85E
     s.a0.toNat < 16 ∧ s.a2.toNat % 2 = 0 ∧ s.a1.toNat < 0x10000 ∧ s.a1.toNat / 32 * 32 + 0x220 ≤ 4096 ∧
     s.a2.toNat + 0x42 ≤ 4096 ∧ s.a2.toNat + 0x42 ≤ s.a1.toNat / 32 * 32 ∧ s.a0.toNat % 2 = 1) ∧
    (let s := operands 0 0x8A0 0xAC0
     s.a0.toNat < 16 ∧ s.a2.toNat % 2 = 0 ∧ s.a1.toNat < 0x10000 ∧ s.a1.toNat / 32 * 32 + 0x220 ≤ 4096 ∧
     s.a2.toNat + 0x42 ≤ 4096 ∧ s.a1.toNat / 32 * 32 + 0x220 ≤ s.a2.toNat ∧ s.a0.toNat % 2 = 0) := by decide

/-- The output over the slot's first row. -/
theorem test_witness_WindowWritesInOrder :
    (operands 15 0x8BE 0x8A0).a0.toNat < 16 ∧ (operands 15 0x8BE 0x8A0).a2.toNat % 2 = 0 ∧
    (operands 15 0x8BE 0x8A0).a1.toNat < 0x10000 ∧ (operands 15 0x8BE 0x8A0).a1.toNat / 32 * 32 + 0x220 ≤ 4096 ∧
    (operands 15 0x8BE 0x8A0).a2.toNat + 0x42 ≤ 4096 := by decide

theorem test_witness_WindowIgnoresSlotLowBits :
    (31#32).toNat < 32 ∧ (operands 5 0x8AA 0xE70).a0.toNat < 16 ∧ (operands 5 0x8AA 0xE70).a2.toNat % 2 = 0 ∧
    (operands 5 0x8AA 0xE70).a1.toNat < 0x10000 ∧ (operands 5 0x8AA 0xE70).a1.toNat / 32 * 32 + 0x220 ≤ 4096 ∧
    (operands 5 0x8AA 0xE70).a2.toNat + 0x42 ≤ 4096 := by decide

theorem test_witness_GainScalesItsSamples :
    start.faulted = false ∧ (operands 0xE71 17 1).a0.toNat % 2 ≠ 0 ∧
    (¬ (operands 0xFF0 9 1).a0.toNat % 2 ≠ 0 ∧ (operands 0xFF0 9 1).a0.toNat + 2 * (operands 0xFF0 9 1).a1.toNat > 4096) ∧
    ¬ (operands 0xFF0 8 1).a0.toNat + 2 * (operands 0xFF0 8 1).a1.toNat > 4096 ∧
    ¬ (operands 4096 0 1).a0.toNat + 2 * (operands 4096 0 1).a1.toNat > 4096 := by decide
theorem test_witness_GainOfOneIsIdentity :
    (operands 0x100 5 0x10001).a0.toNat % 2 = 0 ∧
    (operands 0x100 5 0x10001).a0.toNat + 2 * (operands 0x100 5 0x10001).a1.toNat ≤ 4096 ∧
    (operands 0x100 5 0x10001).a2.extractLsb' 0 16 = 1#16 := by decide

theorem test_witness_GroupFaultsOrRotatesAndSwaps :
    start.faulted = false ∧ (operands 0xCF1 0xE71 0).a0.toNat % 2 ≠ 0 ∧
    (¬ (operands 0xCF0 0xE71 0).a0.toNat % 2 ≠ 0 ∧ (operands 0xCF0 0xE71 0).a1.toNat % 2 ≠ 0) ∧
    (¬ (operands 0xFC2 0xE70 0).a1.toNat % 2 ≠ 0 ∧ (operands 0xFC2 0xE70 0).a0.toNat + 0x40 > 4096) ∧
    (¬ (operands 0xFC0 0xFC0 0).a0.toNat + 0x40 > 4096 ∧ (operands 0xFC0 0xFC0 0).a1.toNat + 0x42 > 4096) ∧
    ¬ (operands 0xFC0 0xFBE 0).a1.toNat + 0x42 > 4096 ∧
    (0xE00#16 &&& 0xFFE0#16).toNat + 0x220 > 4096 ∧ ¬ (0xDFF#16 &&& 0xFFE0#16).toNat + 0x220 > 4096 := by decide
theorem test_witness_GroupIsItsCommands :
    (operands 0xCF0 0xE70 0).GroupOk ∧ ({ operands 0xFC0 0xFBE 0 with slotPrev := 0xDFE } : State).GroupOk := by decide

/-- The last frame that fits. -/
def frame : State := operands 0xFB78 15 0

/-- The only hypothesis of DecodeFinalRegisters, DecodeFootprint, DecodeLeavesWorkspace and DecodeIsTheWalk: the last and the
first frame that fit. -/
theorem test_witness_DecodeOk : frame.DecodeOk ∧ (operands 0 0 0).DecodeOk := by decide
theorem test_witness_DecodeIsItsCommands : frame.DecodeOk ∧ frame.faulted = false := by decide

/-- The default configuration with one region moved. -/
def oddHeader : Config := { testConfig with hdrOff := 0x101 }
def oddInput : Config := { testConfig with inOff := 0x101 }
def oddOutput : Config := { testConfig with outOff := 0xE71 }

theorem test_witness_DecodeFaultsInOrder :
    frame.faulted = false ∧ frame.cfg.wellFormed = true ∧
    (operands 0xFFFFFFFF 16 0).a1.toNat ≥ 16 ∧ ¬ frame.a1.toNat ≥ 16 ∧
    (oddHeader.wellFormed = true ∧ oddHeader.hdrOff.toNat % 2 ≠ 0) ∧
    (oddInput.wellFormed = true ∧ ¬ oddInput.hdrOff.toNat % 2 ≠ 0 ∧ oddInput.inOff.toNat % 2 ≠ 0) ∧
    (oddOutput.wellFormed = true ∧ ¬ oddOutput.hdrOff.toNat % 2 ≠ 0 ∧ ¬ oddOutput.inOff.toNat % 2 ≠ 0 ∧
      oddOutput.outOff.toNat % 2 ≠ 0) ∧
    (¬ frame.cfg.hdrOff.toNat % 2 ≠ 0 ∧ ¬ frame.cfg.inOff.toNat % 2 ≠ 0 ∧ ¬ frame.cfg.outOff.toNat % 2 ≠ 0) ∧
    (operands 0xFB79 15 0).a0.toNat + 0x488 > start.extSize ∧ ¬ frame.a0.toNat + 0x488 > frame.extSize := by decide

/-- A frame whose header gains are 0. -/
def silentFrame : State :=
  { operands 0x1000 7 0 with ext := [(0x1000, 0), (0x1001, 0), (0x1004, 0), (0x1005, 0)] }

theorem test_witness_DecodeOfZeroGainsIsSilent :
    silentFrame.DecodeOk ∧ silentFrame.extByte silentFrame.a0.toNat = 0 ∧
    silentFrame.extByte (silentFrame.a0.toNat + 1) = 0 ∧ silentFrame.extByte (silentFrame.a0.toNat + 4) = 0 ∧
    silentFrame.extByte (silentFrame.a0.toNat + 5) = 0 := by decide

/-- The same frame with another phase, other gains and another byte outside the slots. -/
def otherFrame : State := { frame with phase := 3, g0 := 5, ws := [(0, 1)], ext := [(0, 1)], a2 := 9 }

theorem test_witness_DecodeOutputFromFrameAndSlots :
    frame.DecodeOk ∧ otherFrame.cfg = frame.cfg ∧ otherFrame.a0 = frame.a0 ∧ otherFrame.a1 = frame.a1 ∧
    otherFrame ≠ frame ∧
    (∀ x, frame.a0.toNat ≤ x → x < frame.a0.toNat + 0x488 → otherFrame.extByte x = frame.extByte x) ∧
    (∀ x, frame.cfg.slotA.toNat ≤ x → x < frame.cfg.slotA.toNat + 0x220 → otherFrame.wsByte x = frame.wsByte x) ∧
    (∀ x, frame.cfg.slotB.toNat ≤ x → x < frame.cfg.slotB.toNat + 0x220 → otherFrame.wsByte x = frame.wsByte x) := by
  have listed : ∀ x, 0 < x → Memory.get? [(0, (1 : Byte))] x = none := by
    intro x hx
    simp [Memory.get?]
    omega
  have ha : frame.a0.toNat = 0xFB78 := by decide
  have hA : frame.cfg.slotA.toNat = 0x8A0 := by decide
  have hB : frame.cfg.slotB.toNat = 0xAC0 := by decide
  refine ⟨by decide, rfl, rfl, rfl, fun h => absurd (congrArg State.a2 h) (by decide), ?_, ?_, ?_⟩
  · intro x h _
    show (Memory.get? [(0, (1 : Byte))] x).getD _ = (Memory.get? [] x).getD _
    rw [listed x (by omega)]
    rfl
  · intro x h _
    show (Memory.get? [(0, (1 : Byte))] x).getD _ = (Memory.get? [] x).getD _
    rw [listed x (by omega)]
    rfl
  · intro x h _
    show (Memory.get? [(0, (1 : Byte))] x).getD _ = (Memory.get? [] x).getD _
    rw [listed x (by omega)]
    rfl

theorem test_witness_StepKeepsInvariant : start.Inv ∧ broken.Inv ∧ step start = .next start := ⟨by decide, by decide, rfl⟩

theorem test_witness_FaultsArePrecise :
    (operands 1 0 0).faulted = false ∧
    exec .srd (operands 1 0 0) = .next ((operands 1 0 0).faultedWith .misaligned 1) ∧
    ((operands 1 0 0).faultedWith .misaligned 1).faulted = true := ⟨by decide, rfl, rfl⟩

theorem test_witness_FaultStaysUntilReset :
    broken.faulted = true ∧ (broken.pending (.read 0x04) []).faulted = true ∧
    (broken.pending (.read 0x04) []).host.head? ≠ some .reset ∧
    step (broken.pending (.read 0x04) []) = .next { broken with host := [], rdata := 1 } := ⟨by decide, rfl, by decide, rfl⟩

/-- Hypotheses of LastOkReportsCompletion, CommandsKeepOperandRegisters and OnlyNamedCommandsWrite. -/
theorem test_witness_LastOkReportsCompletion :
    start.faulted = false ∧ exec .sat16 start = .next { start with res := 0, lastOk := true } ∧
    Instr.sat16 ∉ [Instr.bload] ∧ Instr.bload ∉ [Instr.sat16, .mulsh, .rdot, .gmul, .srd] := ⟨by decide, rfl, by decide, by decide⟩
theorem test_witness_ConfigurationNeverChanges : step start = .next start := rfl

end Sys2Proof.Tests
end

/-! ## Commands, host accesses and steps: what each can do, and the statements of the state -/

namespace Sys2Proof.Machine

/-! ### A command as its checks and its effect -/

/-- The preconditions of a command, in the order its rule checks them (60_exceptions.md rule R143); tied to the model by
`exec_eq_perform`. -/
def commandChecks (i : Instr) (s : State) : List Check :=
  match i with
  | .sat16 | .mulsh | .rdot | .gmul | .bfly => []
  | .bload => [wsRange s.a1 (unsigned s.a2), extRange s.extSize s.a0 (unsigned s.a2)]
  | .bstore => [wsRange s.a0 (unsigned s.a2), extRange s.extSize s.a1 (unsigned s.a2)]
  | .srd | .swr => [misaligned s.a0, wsRange s.a0 2]
  | .synth =>
    [misaligned s.a0, misaligned s.a1, misaligned s.a2, wsRange s.a0 0x40, wsRange s.a1 0x1E2, wsRange s.a2 0x202]
  | .window => [badPhase s.a0, misaligned s.a2, slotRange s.a1, wsRange s.a2 0x42]
  | .gain => [misaligned s.a0, wsRange s.a0 (2 * unsigned s.a1)]
  | .group =>
    [misaligned s.a0, misaligned s.a1, wsRange s.a0 0x40, wsRange s.a1 0x42, slotRange (zext32 s.slotNew),
      slotRange (zext32 s.slotPrev)]
  | .decode => badPhase s.a1 :: layoutMisaligned s.cfg ++ [extRange s.extSize s.a0 0x488]

/-- What a command does when none of its checks fails (30_encoding.md rule R68); tied to the model by
`exec_eq_perform`. -/
def commandEffect (i : Instr) (s : State) : State :=
  match i with
  | .sat16 => { s with res := sext32 (saturate16 s.a0) }
  | .mulsh => { s with res := mulShift16 s.cfg.mulshMode s.a0 s.a1 }
  | .rdot => { s with res := roundedDot (low16 s.a0) (low16 s.a1) }
  | .gmul => { s with res := sext32 (scaledMultiply (low16 s.a0) (low16 s.a1)) }
  | .bload => { s with ws := copyIn s.ws s.ext (unsigned s.a1) (unsigned s.a0) (unsigned s.a2) }
  | .bstore =>
    { s with ext := copyOut s.extSize s.ext s.epoch s.ws (unsigned s.a1) (unsigned s.a0) (unsigned s.a2) }
  | .srd => { s with res := sext32 (s.sample (unsigned s.a0)) }
  | .swr => { s with ws := putSample s.ws (unsigned s.a0) (low16 s.a1) }
  | .bfly => { s with v := butterfly s.cfg s.v }
  | .synth => { s with ws := synthesis s.cfg s.epoch s.ws (unsigned s.a0) (unsigned s.a1) (unsigned s.a2) }
  | .window =>
    { s with ws := windowPass s.cfg s.epoch s.ws (unsigned s.a0) (slotBase s.a1) (unsigned s.a2) }
  | .gain => { s with ws := applyGain s.epoch s.ws (unsigned s.a0) (unsigned s.a1) (low16 s.a2) }
  | .group => s.groupBody (unsigned s.a0) (unsigned s.a1)
  | .decode => s.decodeFrame s.a0 s.a1

/-- A command is its checks, then its effect. Only DECODE itself asks for a well-formed configuration (log entry 12). -/
theorem exec_eq_perform (i : Instr) (s : State) (h : i = .decode → s.cfg.wellFormed = true) :
    exec i s = s.perform (commandChecks i s) (commandEffect i) := by
  cases i with
  | decode => exact if_pos (h rfl)
  | _ => rfl

/-- Everything a command that answers a next state can do: complete, or report its first violated check. -/
theorem exec_cases {i : Instr} {s t : State} (h : exec i s = .next t) :
    ((∀ c ∈ commandChecks i s, c.bad = false) ∧ t = (commandEffect i s).completed) ∨
    (∃ c ∈ commandChecks i s, c.bad = true ∧ t = s.enterFault c.cause c.info) := by
  have hw : i = .decode → s.cfg.wellFormed = true := by
    rintro rfl
    by_contra hw
    simp [exec, execDecode, hw] at h
  rw [exec_eq_perform i s hw] at h
  exact perform_cases h

/-- No check of a command raises NONE or ILLEGAL_COMMAND (60_exceptions.md rule R142). -/
theorem commandChecks_cause (i : Instr) (s : State) :
    ∀ c ∈ commandChecks i s, c.cause ≠ .none ∧ c.cause ≠ .illegalCommand := by
  cases i <;>
    simp [commandChecks, layoutMisaligned, misaligned, wsRange, extRange, badPhase, slotRange]

/-! ### What commands leave unchanged -/

/-- `t` has the fault record, the operands, the configuration, the pending accesses and the model's own fields that `s`
has. -/
structure KeepsContext (s t : State) : Prop where
  faulted : t.faulted = s.faulted
  cause : t.cause = s.cause
  info : t.info = s.info
  a0 : t.a0 = s.a0
  a1 : t.a1 = s.a1
  a2 : t.a2 = s.a2
  a3 : t.a3 = s.a3
  cfg : t.cfg = s.cfg
  host : t.host = s.host
  rdata : t.rdata = s.rdata
  epoch : t.epoch = s.epoch
  draws : t.draws = s.draws

/-- `t` has everything of `s` that no action of the frame driver writes (46_frame_driver.md rules R127 to R136):
the context, `RES` and `V`. -/
structure KeepsOutsideFrame (s t : State) : Prop extends KeepsContext s t where
  res : t.res = s.res
  v : t.v = s.v

theorem KeepsContext.trans {s t u : State} (h : KeepsContext s t) (h' : KeepsContext t u) : KeepsContext s u where
  faulted := h'.faulted.trans h.faulted
  cause := h'.cause.trans h.cause
  info := h'.info.trans h.info
  a0 := h'.a0.trans h.a0
  a1 := h'.a1.trans h.a1
  a2 := h'.a2.trans h.a2
  a3 := h'.a3.trans h.a3
  cfg := h'.cfg.trans h.cfg
  host := h'.host.trans h.host
  rdata := h'.rdata.trans h.rdata
  epoch := h'.epoch.trans h.epoch
  draws := h'.draws.trans h.draws

theorem KeepsOutsideFrame.trans {s t u : State} (h : KeepsOutsideFrame s t) (h' : KeepsOutsideFrame t u) :
    KeepsOutsideFrame s u where
  toKeepsContext := h.toKeepsContext.trans h'.toKeepsContext
  res := h'.res.trans h.res
  v := h'.v.trans h.v

section
variable (s : State)

theorem decodeInit_keeps (E p0 : Word) : KeepsOutsideFrame s (s.decodeInit E p0) :=
  ⟨by constructor <;> simp, by simp, by simp⟩
theorem headerRead_keeps (E : Word) : KeepsOutsideFrame s (s.headerRead E) :=
  ⟨by constructor <;> simp, by simp, by simp⟩
theorem subBlockLoad_keeps : KeepsOutsideFrame s s.subBlockLoad :=
  ⟨by constructor <;> simp, by simp, by simp⟩
theorem groupTurn_keeps : KeepsOutsideFrame s s.groupTurn :=
  ⟨by constructor <;> simp, by simp, by simp⟩
theorem groupsDone_keeps : KeepsOutsideFrame s s.groupsDone :=
  ⟨by constructor <;> simp, by simp, by simp⟩
theorem subBlockStore_keeps : KeepsOutsideFrame s s.subBlockStore :=
  ⟨by constructor <;> simp, by simp, by simp⟩
theorem frameDone_keeps : KeepsOutsideFrame s s.frameDone :=
  ⟨by constructor <;> simp, by simp, by simp⟩

theorem groupBody_keeps (I O : Nat) : KeepsOutsideFrame s (s.groupBody I O) :=
  ⟨by constructor <;> simp, by simp, by simp⟩

theorem groupTurns_keeps (n : Nat) : KeepsOutsideFrame s (State.groupTurns n s) := by
  induction n generalizing s with
  | zero => exact ⟨by constructor <;> rfl, rfl, rfl⟩
  | succ n ih => exact (groupTurn_keeps s).trans (ih s.groupTurn)

theorem subBlock_keeps : KeepsOutsideFrame s s.subBlock :=
  (((subBlockLoad_keeps s).trans (groupTurns_keeps _ 6)).trans (groupsDone_keeps _)).trans (subBlockStore_keeps _)

theorem decodeFrame_keeps (E p0 : Word) : KeepsOutsideFrame s (s.decodeFrame E p0) := by
  have start := (decodeInit_keeps s E p0).trans (headerRead_keeps _ E)
  have blocks (s : State) := ((subBlock_keeps s).trans (subBlock_keeps _)).trans (subBlock_keeps _)
  exact (start.trans (blocks _)).trans (frameDone_keeps _)

/-- No command's effect touches the context. -/
theorem commandEffect_keepsContext (i : Instr) : KeepsContext s (commandEffect i s) := by
  cases i with
  | group => exact (groupBody_keeps s _ _).toKeepsContext
  | decode => exact (decodeFrame_keeps s _ _).toKeepsContext
  | _ => constructor <;> simp only [commandEffect]

/-- `RES` is the scalar commands' (10_state.md rule R23). -/
theorem commandEffect_res {i : Instr} (h : i ∉ [Instr.sat16, .mulsh, .rdot, .gmul, .srd]) :
    (commandEffect i s).res = s.res := by
  cases i with
  | sat16 | mulsh | rdot | gmul | srd => simp at h
  | group => exact (groupBody_keeps s _ _).res
  | decode => exact (decodeFrame_keeps s _ _).res
  | _ => simp only [commandEffect]

/-- `V` is BFLY's (rule R30). -/
theorem commandEffect_v {i : Instr} (h : i ≠ .bfly) : (commandEffect i s).v = s.v := by
  cases i with
  | bfly => exact absurd rfl h
  | group => exact (groupBody_keeps s _ _).v
  | decode => exact (decodeFrame_keeps s _ _).v
  | _ => simp only [commandEffect]

/-- The gains are DECODE's (rule R29). -/
theorem commandEffect_gains {i : Instr} (h : i ≠ .decode) :
    (commandEffect i s).g0 = s.g0 ∧ (commandEffect i s).g1 = s.g1 := by
  cases i with
  | decode => exact absurd rfl h
  | group => exact ⟨State.groupBody_g0 s _ _, State.groupBody_g1 s _ _⟩
  | _ => simp only [commandEffect, and_self]

/-- The phase and the slot registers are the group body's (46_frame_driver.md rules R131 to R133). -/
theorem commandEffect_slots {i : Instr} (hg : i ≠ .group) (hd : i ≠ .decode) :
    (commandEffect i s).phase = s.phase ∧ (commandEffect i s).slotNew = s.slotNew ∧
      (commandEffect i s).slotPrev = s.slotPrev := by
  cases i with
  | group => exact absurd rfl hg
  | decode => exact absurd rfl hd
  | _ => simp only [commandEffect, and_self]

/-- External memory is BSTORE's and DECODE's (20_memory.md rule R48). -/
theorem commandEffect_ext {i : Instr} (hb : i ≠ .bstore) (hd : i ≠ .decode) : (commandEffect i s).ext = s.ext := by
  cases i with
  | bstore => exact absurd rfl hb
  | decode => exact absurd rfl hd
  | group => exact State.groupBody_ext s _ _
  | _ => simp only [commandEffect]

end

/-! ### What a host access can do -/

/-- The next states a host access can answer, by what it turns out to be. -/
inductive HostEffect (a : HostAccess) (s : State) : State → Prop where
  /-- at no register, or of a width or a platform address that is none of the PSFB's -/
  | ignored : HostEffect a s s
  /-- a command refused while faulted (60_exceptions.md rule R146) -/
  | refused (hf : s.faulted = true) : HostEffect a s { s with lastOk := false }
  /-- an illegal word (30_encoding.md rule R67) -/
  | illegal (hf : s.faulted = false) (w : Word) : HostEffect a s (s.faultedWith .illegalCommand w)
  /-- a command run, to completion or to a fault (rule R68) -/
  | command {t : State} (hf : s.faulted = false) (i : Instr) (h : exec i s = .next t) : HostEffect a s t
  /-- a register written (10_state.md rule R46) -/
  | written (r : HostReg) (d : Word) : HostEffect a s (s.writeReg r d)
  /-- a read the PSFB answers -/
  | answered (d : Word) : HostEffect a s (s.respond d)
  /-- a read the platform answers -/
  | platform : HostEffect a s s.respondFree
  /-- an external byte written by the host (rule R20) -/
  | extWritten (addr : Word) (b : Byte) (h : addr.toNat < s.extSize) :
      HostEffect a s { s with ext := s.ext.set addr.toNat b }
  /-- the reset input (70_reset_and_hazards.md rule R152) -/
  | reset (h : a = .reset) : HostEffect a s s.resetEvent

section
variable {a : HostAccess} {s t : State}

theorem issue_effect {w : Word} (h : issue w s = .next t) : HostEffect a s t := by
  rcases issue_cases w s with ⟨hf, hi⟩ | ⟨hf, -, hi⟩ | ⟨hf, i, -, hi⟩
  · obtain rfl : _ = t := by simpa [hi] using h
    exact .refused hf
  · obtain rfl : _ = t := by simpa [hi] using h
    exact .illegal hf w
  · exact .command hf i (hi ▸ h)

theorem hostWrite_effect {off : BitVec 7} {d : Word} (h : hostWrite off d s = .next t) : HostEffect a s t := by
  rcases hostWrite_cases off d s with ⟨-, hw⟩ | ⟨r, -, -, hw⟩ | ⟨-, hw⟩
  · exact issue_effect (hw ▸ h)
  · obtain rfl : _ = t := by simpa [hw] using h
    exact .written r d
  · obtain rfl : _ = t := by simpa [hw] using h
    exact .ignored

theorem hostRead_effect (off : BitVec 7) (s : State) : HostEffect a s (hostRead off s) := by
  unfold hostRead
  split
  · exact .answered _
  · exact .answered 0

/-- Everything a host access that answers a next state can do. -/
theorem hostAccess_effect (h : hostAccess a s = .next t) : HostEffect a s t := by
  cases a with
  | write off d => exact hostWrite_effect h
  | read off =>
    obtain rfl : _ = t := by simpa [hostAccess] using h
    exact hostRead_effect off s
  | busWrite addr d =>
    simp only [hostAccess] at h
    split at h
    · exact hostWrite_effect h
    · obtain rfl : s = t := by simpa using h
      exact .ignored
  | busRead addr =>
    simp only [hostAccess] at h
    split at h
    · obtain rfl : _ = t := by simpa using h
      exact hostRead_effect _ s
    · obtain rfl : _ = t := by simpa using h
      exact .platform
  | otherWidthWrite off =>
    obtain rfl : s = t := by simpa [hostAccess] using h
    exact .ignored
  | otherWidthRead off =>
    obtain rfl : _ = t := by simpa [hostAccess] using h
    exact .platform
  | extWrite addr b =>
    simp only [hostAccess] at h
    split at h
    · next ha =>
      obtain rfl : _ = t := by simpa using h
      exact .extWritten addr b ha
    · simp at h
  | reset =>
    obtain rfl : _ = t := by simpa [hostAccess] using h
    exact .reset rfl

/-- A command answers a next state under the configuration it found. -/
theorem exec_cfg {i : Instr} (h : exec i s = .next t) : t.cfg = s.cfg := by
  rcases exec_cases h with ⟨-, rfl⟩ | ⟨c, -, -, rfl⟩
  · exact (commandEffect_keepsContext s i).cfg
  · rfl

theorem HostEffect.cfg_eq (h : HostEffect a s t) : t.cfg = s.cfg := by
  cases h with
  | command hf i h => exact exec_cfg h
  | written r d => cases r <;> rfl
  | _ => rfl

end

/-! ### The parts of the invariant -/

/-- Both memories in canonical form inside their spaces (20_memory.md rules R48, R49). -/
def MemoriesOk (s : State) : Prop := WsForm s.ws ∧ ExtForm s.extSize s.ext

/-- The frame driver idle with its counts in range (10_state.md rule R31). -/
def DriverIdle (s : State) : Prop := s.fsm = .idle ∧ s.sb ≤ 3 ∧ s.grp ≤ 6

/-- A cause recorded exactly when faulted, no info without a cause, `LAST_OK` 0 while faulted (rules R24 to R26). -/
def FaultRecordOk (s : State) : Prop :=
  (s.faulted = true ↔ s.cause ≠ .none) ∧ (s.cause = .none → s.info = 0) ∧ (s.faulted = true → s.lastOk = false)

theorem inv_iff (s : State) : s.Inv ↔ MemoriesOk s ∧ DriverIdle s ∧ FaultRecordOk s := by
  simp only [State.Inv, MemoriesOk, DriverIdle, FaultRecordOk, WsForm, ExtForm, and_assoc]

section
variable {s : State}

/-! The memories -/

theorem memoriesOk_of_cfg {t : State} (hcfg : t.cfg = s.cfg) (hws : WsForm t.ws) (hext : ExtForm s.extSize t.ext) :
    MemoriesOk t :=
  ⟨hws, by rwa [State.extSize, hcfg]⟩

theorem memoriesOk_with_ws (h : MemoriesOk s) {ws : Memory} (hws : WsForm ws) : MemoriesOk { s with ws := ws } :=
  ⟨hws, h.2⟩

theorem memoriesOk_with_ext (h : MemoriesOk s) {ext : Memory} (hext : ExtForm s.extSize ext) :
    MemoriesOk { s with ext := ext } :=
  ⟨h.1, hext⟩

theorem memoriesOk_groupBody (h : MemoriesOk s) (I O : Nat) : MemoriesOk (s.groupBody I O) := by
  refine memoriesOk_of_cfg (State.groupBody_cfg s I O) ?_ ((State.groupBody_ext s I O).symm ▸ h.2)
  rw [groupBody_eq]
  exact groupWorkspace_form h.1 _ _ _ _ _ _ _ _ _

theorem memoriesOk_groupTurn (h : MemoriesOk s) : MemoriesOk s.groupTurn := by
  have body := memoriesOk_groupBody h s.inCur.toNat s.outCur.toNat
  exact memoriesOk_of_cfg (s := s.groupBody s.inCur.toNat s.outCur.toNat) rfl body.1 body.2

theorem memoriesOk_groupTurns (h : MemoriesOk s) (n : Nat) : MemoriesOk (State.groupTurns n s) := by
  induction n generalizing s with
  | zero => exact h
  | succ n ih => exact ih (memoriesOk_groupTurn h)

theorem memoriesOk_headerRead (h : MemoriesOk s) (E : Word) : MemoriesOk (s.headerRead E) :=
  memoriesOk_of_cfg (State.headerRead_cfg s E) (copyIn_form h.1 s.ext _ _ _) h.2

theorem memoriesOk_subBlockLoad (h : MemoriesOk s) : MemoriesOk s.subBlockLoad := by
  refine memoriesOk_of_cfg (State.subBlockLoad_cfg s) ?_ h.2
  rw [State.subBlockLoad_ws]
  exact copyIn_form h.1 s.ext _ _ _

theorem memoriesOk_subBlockStore (h : MemoriesOk s) : MemoriesOk s.subBlockStore := by
  refine memoriesOk_of_cfg (State.subBlockStore_cfg s) h.1 ?_
  rw [State.subBlockStore_ext]
  exact copyOut_form h.2 s.epoch s.ws _ _ _

theorem memoriesOk_groupsDone (h : MemoriesOk s) : MemoriesOk s.groupsDone :=
  memoriesOk_of_cfg (State.groupsDone_cfg s) h.1 h.2

theorem memoriesOk_subBlock (h : MemoriesOk s) : MemoriesOk s.subBlock := by
  unfold State.subBlock
  exact memoriesOk_subBlockStore (memoriesOk_groupsDone (memoriesOk_groupTurns (memoriesOk_subBlockLoad h) 6))

theorem memoriesOk_decodeInit (h : MemoriesOk s) (E p0 : Word) : MemoriesOk (s.decodeInit E p0) :=
  memoriesOk_of_cfg (State.decodeInit_cfg s E p0) h.1 h.2

theorem memoriesOk_frameDone (h : MemoriesOk s) : MemoriesOk s.frameDone :=
  memoriesOk_of_cfg (State.frameDone_cfg s) h.1 h.2

theorem memoriesOk_decodeFrame (h : MemoriesOk s) (E p0 : Word) : MemoriesOk (s.decodeFrame E p0) := by
  have start := memoriesOk_headerRead (memoriesOk_decodeInit h E p0) E
  unfold State.decodeFrame
  exact memoriesOk_frameDone (memoriesOk_subBlock (memoriesOk_subBlock (memoriesOk_subBlock start)))

/-- Every command's effect keeps the memories in form. -/
theorem memoriesOk_commandEffect (h : MemoriesOk s) (i : Instr) : MemoriesOk (commandEffect i s) := by
  cases i <;> dsimp only [commandEffect]
  case bload => exact memoriesOk_with_ws h (copyIn_form h.1 s.ext _ _ _)
  case bstore => exact memoriesOk_with_ext h (copyOut_form h.2 s.epoch s.ws _ _ _)
  case swr => exact memoriesOk_with_ws h (putSample_form h.1 _ _)
  case synth => exact memoriesOk_with_ws h (synthesis_form h.1 _ _ _ _ _)
  case window => exact memoriesOk_with_ws h (windowPass_form h.1 _ _ _ _ _)
  case gain => exact memoriesOk_with_ws h (applyGain_form h.1 _ _ _ _)
  case group => exact memoriesOk_groupBody h _ _
  case decode => exact memoriesOk_decodeFrame h _ _
  all_goals exact memoriesOk_of_cfg (s := s) rfl h.1 h.2

/-! The frame driver, through a DECODE -/

@[simp] theorem State.groupTurns_sb (n : Nat) (s : State) : (State.groupTurns n s).sb = s.sb := by
  induction n generalizing s with
  | zero => rfl
  | succ n ih => simp [State.groupTurns, ih]

@[simp] theorem State.groupTurns_grp (n : Nat) (s : State) : (State.groupTurns n s).grp = s.grp + n := by
  induction n generalizing s with
  | zero => rfl
  | succ n ih =>
    simp only [State.groupTurns, ih, State.groupTurn_grp]
    omega

@[simp] theorem State.subBlock_sb (s : State) : s.subBlock.sb = s.sb + 1 := by simp [State.subBlock]

@[simp] theorem State.subBlock_grp (s : State) : s.subBlock.grp = 6 := by simp [State.subBlock]

/-- A DECODE ends idle, its three sub-blocks of six groups counted (46_frame_driver.md rules R124, R136). -/
theorem driverIdle_decodeFrame (s : State) (E p0 : Word) : DriverIdle (s.decodeFrame E p0) := by
  simp [DriverIdle, State.decodeFrame]

theorem driverIdle_commandEffect (h : DriverIdle s) (i : Instr) : DriverIdle (commandEffect i s) := by
  cases i with
  | decode => exact driverIdle_decodeFrame s _ _
  | group => simpa [DriverIdle, commandEffect] using h
  | _ => simpa only [DriverIdle, commandEffect] using h

/-! ### Every step keeps the invariant -/

/-- Taking a fault (60_exceptions.md rule R145): the first one is recorded, a later one leaves its record. -/
theorem faultRecordOk_enterFault (h : FaultRecordOk s) {c : Cause} (hc : c ≠ .none) (info : Word) :
    FaultRecordOk (s.enterFault c info) := by
  obtain ⟨hcause, -, -⟩ := h
  have hne : (s.enterFault c info).cause ≠ .none := by
    rw [State.enterFault_cause]
    split
    · next hf => exact hcause.mp hf
    · exact hc
  exact ⟨iff_of_true rfl hne, fun h => absurd h hne, fun _ => rfl⟩

theorem enterFault_inv (h : s.Inv) {c : Cause} (hc : c ≠ .none) (info : Word) : (s.enterFault c info).Inv := by
  rw [inv_iff] at h ⊢
  obtain ⟨hmem, hidle, hrec⟩ := h
  exact ⟨hmem, hidle, faultRecordOk_enterFault hrec hc info⟩

/-- A command that completes: only an unfaulted one does, so `LAST_OK` may be set. -/
theorem completed_inv (h : s.Inv) (hf : s.faulted = false) (i : Instr) : (commandEffect i s).completed.Inv := by
  rw [inv_iff] at h ⊢
  obtain ⟨hmem, hidle, hcause, hinfo, -⟩ := h
  have keep := commandEffect_keepsContext s i
  refine ⟨memoriesOk_commandEffect hmem i, driverIdle_commandEffect hidle i, ?_⟩
  simp only [FaultRecordOk, State.completed_faulted, State.completed_cause, State.completed_info, keep.faulted,
    keep.cause, keep.info]
  exact ⟨hcause, hinfo, fun h => absurd h (by simp [hf])⟩

theorem exec_inv {i : Instr} {t : State} (h : s.Inv) (hf : s.faulted = false) (he : exec i s = .next t) : t.Inv := by
  rcases exec_cases he with ⟨-, rfl⟩ | ⟨c, hc, -, rfl⟩
  · exact completed_inv h hf i
  · exact enterFault_inv h (commandChecks_cause i s c hc).1 c.info

/-- Right after any reset the invariant holds if the external memory kept is in form (10_state.md rule R45). -/
theorem afterReset_inv (c : Config) (e : Nat) {ext : Memory} (h : ExtForm c.extSize.val ext)
    (host : List HostAccess) (rdata : Word) (draws : Nat) : (State.afterReset c e ext host rdata draws).Inv := by
  rw [inv_iff]
  exact ⟨⟨⟨rfl, rfl⟩, h⟩, ⟨rfl, Nat.zero_le 3, Nat.zero_le 6⟩,
    by simp [State.afterReset], fun _ => rfl, fun _ => rfl⟩

theorem HostEffect.inv {a : HostAccess} {t : State} (he : HostEffect a s t) (h : s.Inv) : t.Inv := by
  obtain ⟨hmem, hidle, hrec⟩ := (inv_iff s).mp h
  cases he with
  | ignored | answered | platform => exact h
  | refused hf =>
    obtain ⟨hcause, hinfo, -⟩ := hrec
    exact (inv_iff _).mpr ⟨hmem, hidle, hcause, hinfo, fun _ => rfl⟩
  | illegal hf w =>
    rw [← State.enterFault_of_not_faulted hf]
    exact enterFault_inv h (by decide) w
  | command hf i hi => exact exec_inv h hf hi
  | written r d => cases r <;> exact h
  | extWritten addr b ha =>
    obtain ⟨hwf, hbelow⟩ := hmem.2
    have hext : ExtForm s.extSize (s.ext.set addr.toNat b) := ⟨Memory.wf_set hwf _ b, Memory.below_set hbelow ha b⟩
    exact (inv_iff _).mpr ⟨memoriesOk_with_ext hmem hext, hidle, hrec⟩
  | reset => exact afterReset_inv s.cfg _ hmem.2 _ _ _

end

/-! ### The host window -/

/-- Each register is at its offset (10_state.md section 2). -/
theorem regAt_regOffset (r : HostReg) : regAt (regOffset r) = some r := by
  cases r with
  | v i => revert i; decide
  | _ => rfl

/-- An offset that is no multiple of 4 is no register's (log entry 9). -/
theorem regAt_of_unaligned {off : BitVec 7} (h : off.toNat % 4 ≠ 0) : regAt off = none := by
  unfold regAt
  split
  any_goals omega
  exact if_neg fun ho => h ho.2

section
variable {s : State} {off : BitVec 7} (hw : s.cfg.wellFormed = true) (rest : List HostAccess)
include hw

/-- A step at a register other than `CMD` is that register's write. -/
theorem step_write_reg {r : HostReg} (hr : regAt off = some r) (hc : r ≠ .cmd) (d : Word) :
    step (s.pending (.write off d) rest) = .next ((s.withHost rest).writeReg r d) := by
  rw [step_pending hw]
  cases r with
  | cmd => exact absurd rfl hc
  | _ => simp only [hostAccess, hostWrite, hr]

/-- A write at an offset that is no register's is ignored (rule R46). -/
theorem step_write_none (hr : regAt off = none) (d : Word) :
    step (s.pending (.write off d) rest) = .next (s.withHost rest) := by
  rw [step_pending hw]
  simp only [hostAccess, hostWrite, hr]

/-- A read of a register answers its value and changes nothing of the PSFB. -/
theorem step_read_reg {r : HostReg} {d : Word} (hr : regAt off = some r) (hd : s.readReg r = d) :
    step (s.pending (.read off) rest) = .next ((s.withHost rest).respond d) := by
  rw [step_pending hw]
  subst hd
  simp only [hostAccess, hostRead, hr]
  cases r <;> rfl

/-- A read at an offset that is no register's answers 0 (rule R46). -/
theorem step_read_none (hr : regAt off = none) :
    step (s.pending (.read off) rest) = .next ((s.withHost rest).respond 0) := by
  rw [step_pending hw]
  simp only [hostAccess, hostRead, hr]

end

/-- `STATUS` by its two bits (10_state.md rule R24). -/
theorem statusWord_eq (s : State) :
    s.statusWord = (if s.faulted then 1 else 0) + (if s.lastOk then 2 else 0) := by
  unfold State.statusWord
  cases s.faulted <;> cases s.lastOk <;> rfl

/-- `PHASE` keeps bits 3:0 of what is written (rule R27). -/
theorem setWidth_four_eq_ofNat (d : Word) : d.setWidth 4 = BitVec.ofNat 4 (d.toNat % 16) := by
  apply BitVec.eq_of_toNat_eq
  simp

/-- The slot registers and the gains keep bits 15:0 of what is written (rules R28, R29). -/
theorem low16_eq_extractLsb (d : Word) : low16 d = d.extractLsb' 0 16 := by
  apply BitVec.eq_of_toNat_eq
  simp [low16]

/-! ### The statements -/

/-- Settles O50: by what the oldest pending access can do (`HostEffect`). -/
theorem stepKeepsInvariant : Obligations.StepKeepsInvariant := by
  intro s t hinv hstep
  obtain ⟨-, ⟨-, rfl⟩ | ⟨a, rest, -, ha⟩⟩ := step_cases hstep
  · exact hinv
  · exact (hostAccess_effect ha).inv (s := s.withHost rest) hinv

/-- Settles O6: each offset holds its register, whose write keeps the bits of rules R22 and R27 to R30. -/
theorem hostWritesRegisters : Obligations.HostWritesRegisters := by
  intro s d rest hw
  rw [← setWidth_four_eq_ofNat, ← low16_eq_extractLsb]
  refine ⟨step_write_reg hw rest (r := .a0) rfl nofun d, step_write_reg hw rest (r := .a1) rfl nofun d,
    step_write_reg hw rest (r := .a2) rfl nofun d, step_write_reg hw rest (r := .a3) rfl nofun d,
    step_write_reg hw rest (r := .phase) rfl nofun d, step_write_reg hw rest (r := .slotNew) rfl nofun d,
    step_write_reg hw rest (r := .slotPrev) rfl nofun d, step_write_reg hw rest (r := .g0) rfl nofun d,
    step_write_reg hw rest (r := .g1) rfl nofun d,
    fun i => step_write_reg hw rest (regAt_regOffset (.v i)) nofun d, ?_⟩
  intro off hoff
  simp only [List.mem_cons, List.not_mem_nil, or_false] at hoff
  rcases hoff with rfl | rfl | rfl | rfl | rfl | rfl
  · exact step_write_reg hw rest (r := .status) rfl nofun d
  · exact step_write_reg hw rest (r := .faultCause) rfl nofun d
  · exact step_write_reg hw rest (r := .faultInfo) rfl nofun d
  · exact step_write_reg hw rest (r := .res) rfl nofun d
  · exact step_write_none hw rest rfl d
  · exact step_write_none hw rest rfl d

/-- Settles O7: each offset holds its register, whose read value rules R21 to R30 give. -/
theorem hostReadsRegisters : Obligations.HostReadsRegisters := by
  intro s rest hw
  refine ⟨step_read_reg hw rest (r := .cmd) rfl rfl, step_read_reg hw rest (r := .status) rfl (statusWord_eq s),
    step_read_reg hw rest (r := .faultCause) rfl ?_, step_read_reg hw rest (r := .faultInfo) rfl rfl,
    step_read_reg hw rest (r := .a0) rfl rfl, step_read_reg hw rest (r := .a1) rfl rfl,
    step_read_reg hw rest (r := .a2) rfl rfl, step_read_reg hw rest (r := .a3) rfl rfl,
    step_read_reg hw rest (r := .res) rfl rfl,
    step_read_reg hw rest (r := .phase) rfl (BitVec.ofNat_toNat _ _).symm,
    step_read_reg hw rest (r := .slotNew) rfl (BitVec.ofNat_toNat 32 s.slotNew).symm,
    step_read_reg hw rest (r := .slotPrev) rfl (BitVec.ofNat_toNat 32 s.slotPrev).symm,
    step_read_reg hw rest (r := .g0) rfl rfl, step_read_reg hw rest (r := .g1) rfl rfl,
    fun i => step_read_reg hw rest (regAt_regOffset (.v i)) rfl, ?_⟩
  · change s.causeWord = _
    unfold State.causeWord
    cases s.cause <;> rfl
  · intro off hoff
    simp only [List.mem_cons, List.not_mem_nil, or_false] at hoff
    rcases hoff with rfl | rfl
    · exact step_read_none hw rest rfl
    · exact step_read_none hw rest rfl

/-- Settles O8: such an access is ignored or answered by the platform, and an unaligned offset is no register's. -/
theorem accessesToNoRegister : Obligations.AccessesToNoRegister := by
  intro s off rest hw
  refine ⟨step_pending hw _ rest, ⟨Config.freeBus s.draws, step_pending hw _ rest⟩, fun hoff => ?_⟩
  have hnone := regAt_of_unaligned hoff
  exact ⟨step_write_none hw rest hnone, step_read_none hw rest hnone⟩

/-- Settles O10: an address that exists is written as `putExt` writes it; any other stops the model. -/
theorem hostWritesExternalMemory : Obligations.HostWritesExternalMemory := by
  intro s addr b rest hw
  have hstep := step_pending hw (.extWrite addr b) rest
  split
  · next h =>
    refine ⟨putExt s.extSize s.ext addr.toNat b, ?_, fun x => ?_⟩
    · rw [putExt, if_pos h]
      exact hstep.trans (if_pos h)
    · rw [extByteAt_putExt]
      simp only [h, and_true, State.extByte]
  · next h => exact hstep.trans (if_neg h)

/-- Settles O54: a command that completes sets `LAST_OK` and does not fault; one that faults clears it. -/
theorem lastOkReportsCompletion : Obligations.LastOkReportsCompletion := by
  intro i s t hf he
  rcases exec_cases he with ⟨-, rfl⟩ | ⟨c, -, -, rfl⟩
  · simp [(commandEffect_keepsContext s i).faulted, hf]
  · rfl

/-- Settles O55: no command's effect touches the context, and a fault writes only its record. -/
theorem commandsKeepOperandRegisters : Obligations.CommandsKeepOperandRegisters := by
  intro i s t he
  rcases exec_cases he with ⟨-, rfl⟩ | ⟨c, -, -, rfl⟩
  · have keep := commandEffect_keepsContext s i
    exact ⟨keep.a0, keep.a1, keep.a2, keep.a3, keep.cfg, keep.host, keep.rdata, keep.epoch, keep.draws⟩
  · exact ⟨rfl, rfl, rfl, rfl, rfl, rfl, rfl, rfl, rfl⟩

/-- Settles O56: by the write sets of the commands' effects; a fault writes none of these. -/
theorem onlyNamedCommandsWrite : Obligations.OnlyNamedCommandsWrite := by
  intro i s t he
  rcases exec_cases he with ⟨-, rfl⟩ | ⟨c, -, -, rfl⟩
  · exact ⟨commandEffect_res s, commandEffect_v s, commandEffect_gains s, commandEffect_slots s,
      commandEffect_ext s⟩
  · exact ⟨fun _ => rfl, fun _ => rfl, fun _ => ⟨rfl, rfl⟩, fun _ _ => ⟨rfl, rfl, rfl⟩, fun _ _ => rfl⟩

/-- Settles O57: by what the oldest pending access can do. -/
theorem configurationNeverChanges : Obligations.ConfigurationNeverChanges := by
  intro s t hstep
  obtain ⟨-, ⟨-, rfl⟩ | ⟨a, rest, -, ha⟩⟩ := step_cases hstep
  · rfl
  · exact (hostAccess_effect ha).cfg_eq

/-- Settles O14: the values `State.afterReset` gives (10_state.md rule R45). -/
theorem resetValues : Obligations.ResetValues :=
  ⟨rfl, rfl, rfl, rfl, rfl, rfl, rfl, rfl, rfl, rfl, rfl, rfl, rfl, rfl, rfl, rfl⟩

/-- Settles O51: the reset state keeps an external memory in which nothing is written yet. -/
theorem resetMeetsInvariant : Obligations.ResetMeetsInvariant :=
  afterReset_inv Config.defaults 0 (ext := []) ⟨rfl, rfl⟩ [] 0 0

end Sys2Proof.Machine

/-! ## The statements of the memory: refused layouts (20_memory.md rule R60) and the checks of DECODE (46_frame_driver.md
rule R126) -/

namespace Sys2Proof

open Sys2Proof.Machine (overlap)

/-! ### A well-formed layout -/

@[simp] theorem Config.slotsAligned_iff (c : Config) :
    c.slotsAligned = true ↔ c.slotA.toNat % 0x20 = 0 ∧ c.slotB.toNat % 0x20 = 0 := by
  simp [Config.slotsAligned]

@[simp] theorem Config.regionsInside_iff (c : Config) :
    c.regionsInside = true ↔ ∀ r ∈ c.regions, r.1 + r.2 ≤ 4096 := by
  simp [Config.regionsInside]

/-- Two regions are apart exactly when they share no byte. -/
theorem Config.apart_iff_not_overlap (r q : Nat × Nat) :
    Config.apart r q = true ↔ ¬ overlap r.1 r.2 q.1 q.2 := by
  simp only [Config.apart, overlap, Bool.or_eq_true, decide_eq_true_eq]
  omega

theorem Config.pairwiseApart_iff (rs : List (Nat × Nat)) :
    Config.pairwiseApart rs = true ↔ rs.Pairwise fun r q => ¬ overlap r.1 r.2 q.1 q.2 := by
  induction rs with
  | nil => simp [Config.pairwiseApart]
  | cons r rest ih =>
    simp only [Config.pairwiseApart, Bool.and_eq_true, List.all_eq_true, Config.apart_iff_not_overlap, ih,
      List.pairwise_cons]

/-- No two regions of a configuration whose regions are apart share a byte (rule R60). -/
@[simp] theorem Config.regionsApart_iff (c : Config) :
    c.regionsApart = true ↔ c.regions.Pairwise fun r q => ¬ overlap r.1 r.2 q.1 q.2 :=
  Config.pairwiseApart_iff c.regions

/-- What a well-formed configuration satisfies (rules R40, R60). -/
theorem Config.wellFormed_iff (c : Config) :
    c.wellFormed = true ↔
      c.slotsAligned = true ∧ c.regionsInside = true ∧ c.regionsApart = true ∧ c.pairMatching = true := by
  simp only [Config.wellFormed, Bool.and_eq_true, and_assoc]

end Sys2Proof

namespace Sys2Proof.Machine

/-! ### The checks of DECODE -/

/-- A 16-bit offset keeps its value in 32 bits. -/
@[simp] theorem zext32_toNat (h : Half) : (zext32 h).toNat = h.toNat :=
  BitVec.toNat_setWidth_of_le (by decide)

/-- With no fault recorded, the first check decides between its fault and the rest of the command (60_exceptions.md rules
R143 to R145). -/
theorem perform_cons {s : State} (hf : s.faulted = false) (c : Check) (checks : List Check) (run : State → State) :
    s.perform (c :: checks) run =
      if c.bad = true then .next (s.faultedWith c.cause c.info) else s.perform checks run := by
  split
  · next hbad => rw [perform_cons_of_bad hbad, State.enterFault_of_not_faulted hf]
  · next hpass => exact perform_cons_of_pass (Bool.eq_false_iff.mpr hpass)

/-- DECODE by its checks, in the order of rule R143, and then the frame. -/
theorem exec_decode_eq {s : State} (hf : s.faulted = false) (hw : s.cfg.wellFormed = true) :
    exec .decode s =
      if s.a1.toNat ≥ 16 then .next (s.faultedWith .badPhase s.a1)
      else if s.cfg.hdrOff.toNat % 2 ≠ 0 then .next (s.faultedWith .misaligned (zext32 s.cfg.hdrOff))
      else if s.cfg.inOff.toNat % 2 ≠ 0 then .next (s.faultedWith .misaligned (zext32 s.cfg.inOff))
      else if s.cfg.outOff.toNat % 2 ≠ 0 then .next (s.faultedWith .misaligned (zext32 s.cfg.outOff))
      else if s.a0.toNat + 0x488 > s.extSize then .next (s.faultedWith .extRange s.a0)
      else .next (s.decodeFrame s.a0 s.a1).completed := by
  rw [exec_eq_perform .decode s fun _ => hw]
  simp only [commandChecks, commandEffect, layoutMisaligned, List.cons_append, List.nil_append, perform_cons hf,
    perform_nil, badPhase, misaligned, extRange, zext32_toNat, decide_eq_true_eq]

/-! ### The statements -/

/-- Settles O12: each clause contradicts the alignment, the bounds or the separation that a well-formed configuration
has. -/
theorem brokenLayoutIsRefused : Obligations.BrokenLayoutIsRefused := by
  intro s hbroken
  refine step_of_badConfig (Bool.eq_false_iff.mpr fun hw => ?_)
  obtain ⟨haligned, hinside, hapart, -⟩ := (Config.wellFormed_iff s.cfg).mp hw
  simp only [Config.slotsAligned_iff, Config.regionsInside_iff, Config.regionsApart_iff, Config.regions,
    List.forall_mem_cons, List.pairwise_cons] at haligned hinside hapart
  omega

/-- Settles O42: by the chain of DECODE's checks; a frame leaves the fault record as it was. -/
theorem decodeFaultsInOrder : Obligations.DecodeFaultsInOrder := by
  refine ⟨rfl, fun s hf hw => ?_⟩
  rw [exec_decode_eq hf hw]
  split_ifs
  any_goals rfl
  exact ⟨_, rfl, (decodeFrame_keeps s s.a0 s.a1).faulted.trans hf, rfl⟩

end Sys2Proof.Machine

/-! ## The statements of the encoding (30_encoding.md): command words, their issue, the window at `HOST_BASE`, scripts -/

namespace Sys2Proof

/-! ### Command words -/

/-- Every command's word and row of the opcode map are as rules R66, R67 and R71 ask. -/
theorem encodingStatement (i : Instr) : Laws.Encoding.Statement i := by
  cases i with
  | sat16 => exact Laws.Encoding.sat16
  | mulsh => exact Laws.Encoding.mulsh
  | rdot => exact Laws.Encoding.rdot
  | gmul => exact Laws.Encoding.gmul
  | bload => exact Laws.Encoding.bload
  | bstore => exact Laws.Encoding.bstore
  | srd => exact Laws.Encoding.srd
  | swr => exact Laws.Encoding.swr
  | bfly => exact Laws.Encoding.bfly
  | synth => exact Laws.Encoding.synth
  | window => exact Laws.Encoding.window
  | gain => exact Laws.Encoding.gain
  | group => exact Laws.Encoding.group
  | decode => exact Laws.Encoding.decode

theorem reservedClear_iff (w : Word) : reservedClear w = true ↔ w.extractLsb' 0 24 = 0#24 := by
  simp [reservedClear]

/-- A word is its `op` followed by its reserved bits (rule R66). -/
theorem opField_append_reserved (w : Word) : opField w ++ w.extractLsb' 0 24 = w :=
  (BitVec.extractLsb'_append_extractLsb'_eq_extractLsb' rfl).trans BitVec.extractLsb'_eq_self

/-- A word is a command's exactly when its reserved bits are 0 and its `op` is that command's (rules R66, R67). -/
theorem eq_encode_iff (w : Word) (i : Instr) : w = encode i ↔ reservedClear w = true ∧ opField w = opcode i := by
  constructor
  · rintro rfl
    obtain ⟨-, hop, hclear, -⟩ := encodingStatement i
    exact ⟨hclear, hop⟩
  · rintro ⟨hclear, hop⟩
    rw [reservedClear_iff] at hclear
    rw [← opField_append_reserved w, hclear, hop, encode]

/-- The opcode map lists each command under its opcode and nothing else (rule R71). -/
theorem mem_opcodeMap_iff (op : BitVec 8) (i : Instr) : (op, i) ∈ opcodeMap ↔ op = opcode i := by
  obtain ⟨-, -, -, hrows⟩ := encodingStatement i
  have hmem : (op, i) ∈ opcodeMap.filter (fun row => row.2 == i) ↔ (op, i) = (opcode i, i) := by
    rw [hrows, List.mem_singleton]
  simpa using hmem

/-- A row found under an `op` is that of the command with this opcode. -/
theorem opcode_of_find? {op : BitVec 8} {row : BitVec 8 × Instr}
    (h : opcodeMap.find? (fun row => row.1 == op) = some row) : op = opcode row.2 := by
  have hop : row.1 = op := by simpa using List.find?_some h
  exact hop ▸ (mem_opcodeMap_iff row.1 row.2).mp (List.mem_of_find?_eq_some h)

/-- A command's own word decodes to it. -/
theorem decode_encode (i : Instr) : decode (encode i) = .ok i := by
  cases i <;> rfl

/-- No other word decodes to a command: the decoder asks for clear reserved bits and the command's opcode. -/
theorem eq_encode_of_decode {w : Word} {i : Instr} (h : decode w = .ok i) : w = encode i := by
  unfold decode at h
  split at h
  · next hclear =>
    split at h
    · next row hfind =>
      cases h
      exact (eq_encode_iff w row.2).mpr ⟨hclear, opcode_of_find? hfind⟩
    · cases h
  · cases h

/-- A word with a nonzero reserved bit, or an `op` the opcode map has no row for, is no command's (rule R67). -/
theorem decode_ne_ok {w : Word}
    (h : w.extractLsb' 0 24 ≠ 0#24 ∨ opField w ∉ opcodeMap.map (·.1)) (i : Instr) : decode w ≠ .ok i := by
  intro hd
  obtain ⟨hclear, hop⟩ := (eq_encode_iff w i).mp (eq_encode_of_decode hd)
  rcases h with hrsv | hrow
  · exact hrsv ((reservedClear_iff w).mp hclear)
  · exact hrow (List.mem_map_of_mem ((mem_opcodeMap_iff (opField w) i).mpr hop))

end Sys2Proof

namespace Sys2Proof.Machine

/-! ### Issue (rule R68) -/

section
variable {s : State} {w : Word}

/-- With no fault recorded, issuing a command's word is the command. -/
theorem issue_of_command (hf : s.faulted = false) {i : Instr} (hd : decode w = .ok i) : issue w s = exec i s := by
  rcases issue_cases w s with ⟨hf', -⟩ | ⟨-, ⟨e, he⟩, -⟩ | ⟨-, j, hj, hi⟩
  · simp [hf] at hf'
  · simp [hd] at he
  · obtain rfl : i = j := by simpa [hd] using hj
    exact hi

/-- With no fault recorded, issuing any other word records ILLEGAL_COMMAND and the word (60_exceptions.md rule R142). -/
theorem issue_of_illegal (hf : s.faulted = false) (hd : ∀ i, decode w ≠ .ok i) :
    issue w s = .next (s.faultedWith .illegalCommand w) := by
  rcases issue_cases w s with ⟨hf', -⟩ | ⟨-, -, hi⟩ | ⟨-, j, hj, -⟩
  · simp [hf] at hf'
  · exact hi
  · exact absurd hj (hd j)

/-- A step with a write pending at `CMD` issues its word. -/
theorem step_write_cmd (hw : s.cfg.wellFormed = true) (w : Word) (rest : List HostAccess) :
    step (s.pending (.write 0x00 w) rest) = issue w (s.withHost rest) :=
  step_pending hw (.write 0x00 w) rest

end

/-! ### The window at `HOST_BASE` (rule R74) -/

/-- A platform address lies outside the window at `HOST_BASE`. -/
def OutsideWindow (c : Config) (addr : Word) : Prop :=
  addr.toNat < c.hostBase.toNat ∨ c.hostBase.toNat + 0x80 ≤ addr.toNat

/-- The window offset of `HOST_BASE + off` is `off`. -/
theorem windowOffset_hostBase_add {c : Config} (hend : c.hostBase.toNat + 0x80 ≤ 4294967296) (off : BitVec 7) :
    windowOffset c (BitVec.ofNat 32 (c.hostBase.toNat + off.toNat)) = some off := by
  have hoff := off.isLt
  have haddr : (BitVec.ofNat 32 (c.hostBase.toNat + off.toNat)).toNat = c.hostBase.toNat + off.toNat :=
    Nat.mod_eq_of_lt (by omega)
  rw [windowOffset, haddr, if_pos (by omega), Nat.add_sub_cancel_left, BitVec.ofNat_toNat, BitVec.setWidth_eq]

/-- An address outside the window has no window offset. -/
theorem windowOffset_of_outside {c : Config} {addr : Word} (h : OutsideWindow c addr) : windowOffset c addr = none :=
  if_neg (by unfold OutsideWindow at h; omega)

section
variable {s : State} {addr : Word} (hw : s.cfg.wellFormed = true) (rest : List HostAccess)
include hw

/-- A bus write in the window is the write at its offset. -/
theorem step_busWrite_window {off : BitVec 7} (h : windowOffset s.cfg addr = some off) (d : Word) :
    step (s.pending (.busWrite addr d) rest) = step (s.pending (.write off d) rest) := by
  simp only [step_pending hw, hostAccess, State.withHost, h]

/-- A bus read in the window is the read at its offset. -/
theorem step_busRead_window {off : BitVec 7} (h : windowOffset s.cfg addr = some off) :
    step (s.pending (.busRead addr) rest) = step (s.pending (.read off) rest) := by
  simp only [step_pending hw, hostAccess, State.withHost, h]

/-- A bus write outside the window is none of the PSFB's. -/
theorem step_busWrite_outside (h : OutsideWindow s.cfg addr) (d : Word) :
    step (s.pending (.busWrite addr d) rest) = .next (s.withHost rest) := by
  simp only [step_pending hw, hostAccess, State.withHost, windowOffset_of_outside h]

/-- A bus read outside the window is answered by the platform (log entry 9). -/
theorem step_busRead_outside (h : OutsideWindow s.cfg addr) :
    step (s.pending (.busRead addr) rest) = .next (s.withHost rest).respondFree := by
  simp only [step_pending hw, hostAccess, State.withHost, windowOffset_of_outside h]

end

/-! ### The statements -/

/-- Settles O2: a command's word decodes to it, and no other word does. -/
theorem decodeExactlyTheEncodings : Obligations.DecodeExactlyTheEncodings :=
  fun _ i => ⟨eq_encode_of_decode, fun h => h ▸ decode_encode i⟩

/-- Settles O4: neither kind of word is a command's, and issuing a word that is no command's records the fault. -/
theorem illegalWordRaisesFault : Obligations.IllegalWordRaisesFault := by
  intro s w rest hw hf hillegal
  rw [step_write_cmd hw]
  exact issue_of_illegal hf (decode_ne_ok hillegal)

/-- Settles O9: an address of the window has its offset, any other has none. -/
theorem busAccessThroughHostBase : Obligations.BusAccessThroughHostBase := by
  intro s rest hw hend
  refine ⟨fun off d => ?_, fun addr d hout => step_busWrite_outside hw rest hout d⟩
  have hoff := windowOffset_hostBase_add hend off
  exact ⟨step_busWrite_window hw rest hoff d, step_busRead_window hw rest hoff⟩

/-- Settles O1: the five words are their commands' encodings; the decoder refuses the other four by their fields. -/
theorem decodesSpecWords : Obligations.DecodesSpecWords :=
  ⟨decode_encode .sat16, decode_encode .bstore, decode_encode .window, decode_encode .group, decode_encode .decode,
    rfl, rfl, rfl, rfl⟩

/-- Settles O3: a write at `CMD` issues its word, and a command's word is the command. -/
theorem stepRunsDecodedCommand : Obligations.StepRunsDecodedCommand := by
  intro s w i rest hw hf hd
  rw [step_write_cmd hw]
  exact issue_of_command (s := s.withHost rest) hf hd

/-- Settles O13: the two texts are read by the parser; a command line's accesses are those of rule R76 by definition. -/
theorem scriptLinesExpand : Obligations.ScriptLinesExpand :=
  ⟨by decide, by decide, fun _ _ _ _ _ => ⟨rfl, rfl, rfl, rfl, rfl⟩⟩

/-- Settles O58: the platform answers, with the next free value. -/
theorem busReadOutsideWindow : Obligations.BusReadOutsideWindow :=
  fun s rest _ hw _ hout => ⟨Config.freeBus s.draws, step_busRead_outside hw rest hout⟩

end Sys2Proof.Machine

/-! ## The primitive commands (40_primitives.md): the fixed-point functions on integers, and the four commands -/

namespace Sys2Proof.Machine

/-! ### The fixed-point functions on integers (rules R77 to R80, R85) -/

/-- Narrowing to a word is rule R13's `int32`. -/
theorem ofInt_toInt_eq_int32 (v : Int) : (BitVec.ofInt 32 v).toInt = int32 v := by
  rw [BitVec.toInt_ofInt, Int.bmod_def, int32]
  omega

theorem sext32_toInt (h : Half) : (sext32 h).toInt = h.toInt :=
  BitVec.toInt_signExtend_of_le (by decide)

/-- A value in range passes unchanged: dropping bits 31:16 is the balanced remainder by 2^16. -/
theorem saturate16_toInt (x : Word) : (saturate16 x).toInt = max (-32768) (min 32767 x.toInt) := by
  unfold saturate16
  split
  · next habove =>
    have hbound : (32767#16).toInt = 32767 := rfl
    omega
  · next hle =>
    split
    · next hbelow =>
      have hbound : (0x8000#16).toInt = -32768 := rfl
      omega
    · next hge =>
      have hkept : (x.setWidth 16).toInt = x.toInt := by
        rw [← BitVec.signExtend_eq_setWidth_of_le x (by decide),
          BitVec.toInt_signExtend_eq_toInt_bmod_of_le x (by decide), Int.bmod_eq_of_le (by omega) (by omega)]
      omega

theorem mulShift16_exact_toInt (x y : Word) :
    (mulShift16 .exact x y).toInt = int32 (x.toInt * y.toInt / 65536) :=
  ofInt_toInt_eq_int32 _

/-- The shifted word needs no narrowing: it is in range already. -/
theorem mulShift16_wrap32_toInt (x y : Word) :
    (mulShift16 .wrap32 x y).toInt = int32 (x.toInt * y.toInt) / 65536 := by
  rw [mulShift16, ofInt_toInt_eq_int32, ofInt_toInt_eq_int32]
  unfold int32
  omega

/-- Rule R78: the modes agree when the exact product fits in a word. -/
theorem mulShift16_toInt_of_product_fits (mode : MulshMode) {x y : Word} (hlo : -2147483648 ≤ x.toInt * y.toInt)
    (hhi : x.toInt * y.toInt < 2147483648) : (mulShift16 mode x y).toInt = x.toInt * y.toInt / 65536 := by
  cases mode with
  | exact => exact BitVec.toInt_ofInt_eq_self (by decide) (by omega) (by omega)
  | wrap32 =>
    rw [mulShift16, BitVec.toInt_ofInt_eq_self (n := x.toInt * y.toInt) (by decide) hlo hhi]
    exact BitVec.toInt_ofInt_eq_self (by decide) (by omega) (by omega)

theorem mulShift16_zero (mode : MulshMode) (x : Word) : mulShift16 mode x 0 = 0 := by
  cases mode <;> simp [mulShift16]

theorem mulShift16_exact_65536 (x : Word) : mulShift16 .exact x 65536 = x := by
  have hy : (65536 : Word).toInt = 65536 := rfl
  rw [mulShift16, hy, Int.mul_ediv_cancel _ (by decide), BitVec.ofInt_toInt]

/-- The exact product of two halfwords fits in a word, with room for the rounding term of rule R79. -/
theorem half_product_bounds (x y : Half) : -1073741824 ≤ x.toInt * y.toInt ∧ x.toInt * y.toInt ≤ 1073741824 :=
  ⟨BitVec.le_toInt_mul_toInt, BitVec.toInt_mul_toInt_le⟩

theorem roundedDot_toInt (x y : Half) : (roundedDot x y).toInt = (x.toInt * y.toInt + 0x4000) / 32768 := by
  obtain ⟨hlo, hhi⟩ := half_product_bounds x y
  exact BitVec.toInt_ofInt_eq_self (by decide) (by omega) (by omega)

theorem scaledMultiply_toInt (sample gain : Half) :
    (scaledMultiply sample gain).toInt = max (-32768) (min 32767 (sample.toInt * gain.toInt)) := by
  obtain ⟨hlo, hhi⟩ := half_product_bounds sample gain
  rw [scaledMultiply, saturate16_toInt, BitVec.toInt_ofInt_eq_self (by decide) (by omega) (by omega)]

/-! ### The statements -/

/-- Settles O16: the sign extension keeps the clamped value. -/
theorem sat16Clamps : Obligations.Sat16Clamps := by
  refine ⟨rfl, fun s => ⟨sext32 (saturate16 s.a0), rfl, ?_⟩⟩
  rw [sext32_toInt, saturate16_toInt]
  omega

/-- Settles O17: one equation of mulShift16 per mode. -/
theorem mulshFloorsTheProduct : Obligations.MulshFloorsTheProduct := by
  refine ⟨rfl, fun s => ⟨mulShift16 s.cfg.mulshMode s.a0 s.a1, rfl, fun hmode => ?_, fun hmode => ?_⟩⟩
  · rw [hmode, mulShift16_exact_toInt]
  · rw [hmode, mulShift16_wrap32_toInt]

/-- Settles O18: the weights 0 and 65536, and the products that fit in a word, each by its law of mulShift16. -/
theorem mulshIdentityAndAgreement : Obligations.MulshIdentityAndAgreement := by
  refine fun s => ⟨mulShift16 s.cfg.mulshMode s.a0 s.a1, rfl, fun hzero => ?_, fun hmode hone => ?_,
    mulShift16_toInt_of_product_fits s.cfg.mulshMode⟩
  · rw [hzero, mulShift16_zero]
  · rw [hmode, hone, mulShift16_exact_65536]

/-- Settles O19: the floor formula, whose bounds are those of nearest rounding; the range is that of the product. -/
theorem rdotRoundsToNearest : Obligations.RdotRoundsToNearest := by
  refine ⟨rfl, fun s => ⟨roundedDot (low16 s.a0) (low16 s.a1), rfl, ?_⟩⟩
  obtain ⟨hlo, hhi⟩ := half_product_bounds (low16 s.a0) (low16 s.a1)
  rw [← low16_eq_extractLsb, ← low16_eq_extractLsb, roundedDot_toInt]
  omega

/-- Settles O20: the sign extension keeps the clamped product. -/
theorem gmulSaturatesTheProduct : Obligations.GmulSaturatesTheProduct := by
  refine ⟨rfl, fun s => ⟨sext32 (scaledMultiply (low16 s.a0) (low16 s.a1)), rfl, ?_⟩⟩
  rw [← low16_eq_extractLsb, ← low16_eq_extractLsb, sext32_toInt, scaledMultiply_toInt]

end Sys2Proof.Machine

/-! ## The workspace commands (41_workspace_ops.md): the sample operations on integers, and the four commands -/

namespace Sys2Proof.Machine

/-! ### Samples as integers (rules R86, R87; 00_scope.md rule R13) -/

/-- A sample's signed value is rule R13's `int16` of its bits. -/
theorem toInt_eq_int16_toNat (h : Half) : h.toInt = int16 h.toNat := by
  rw [BitVec.toInt_eq_toNat_bmod, Int.bmod_def, int16]
  omega

/-- Dropping bits 31:16 is rule R13's `int16`. -/
theorem low16_toInt (d : Word) : (low16 d).toInt = int16 d.toNat := by
  rw [toInt_eq_int16_toNat, low16, BitVec.toNat_setWidth, int16, int16]
  omega

/-- A sample is big-endian: its first byte is the high one (20_memory.md rule R50). -/
theorem sampleAt_toInt (e : Nat) (m : Memory) (a : Nat) :
    (sampleAt e m a).toInt = int16 (256 * (wsByteAt e m a).toNat + (wsByteAt e m (a + 1)).toNat) := by
  have hlow := (wsByteAt e m (a + 1)).isLt
  rw [toInt_eq_int16_toNat, sampleAt, BitVec.toNat_append, ← Nat.shiftLeft_add_eq_or_of_lt hlow, Nat.shiftLeft_eq]
  congr 1
  omega

/-- The two bytes a sample write leaves are bits 15:8 and 7:0 of the word it is given (rule R87). -/
theorem wsByteAt_putSample_low16 (e : Nat) (m : Memory) {a : Nat} (ha : a + 2 ≤ 4096) (d : Word) (x : Nat) :
    wsByteAt e (putSample m a (low16 d)) x =
      if x = a then d.extractLsb' 8 8 else if x = a + 1 then d.extractLsb' 0 8 else wsByteAt e m x := by
  have hhigh : (low16 d).extractLsb' 8 8 = d.extractLsb' 8 8 := BitVec.extractLsb'_setWidth_of_le (by decide)
  have hlow : (low16 d).extractLsb' 0 8 = d.extractLsb' 0 8 := BitVec.extractLsb'_setWidth_of_le (by decide)
  have h0 : a < 4096 := by omega
  have h1 : a + 1 < 4096 := by omega
  simp only [wsByteAt_putSample, hhigh, hlow, h0, h1, and_true]
  by_cases hx : x = a
  · simp [hx]
  · simp [hx]

/-! ### Each command as the chain of its checks (60_exceptions.md rule R143) -/

section
variable {s : State}

/-- The checks that BLOAD and BSTORE share: WS_RANGE, then EXT_RANGE (rules R88, R89). -/
theorem perform_copyChecks (hf : s.faulted = false) (o e : Word) (n : Nat) (run : State → State) :
    s.perform [wsRange o n, extRange s.extSize e n] run =
      if o.toNat + n > 4096 then .next (s.faultedWith .wsRange o)
      else if e.toNat + n > s.extSize then .next (s.faultedWith .extRange e)
      else .next (run s).completed := by
  simp only [perform_cons hf, perform_nil, wsRange, extRange, decide_eq_true_eq]

/-- The checks that SRD and SWR share: MISALIGNED, then WS_RANGE (rules R90, R91). -/
theorem perform_sampleChecks (hf : s.faulted = false) (a : Word) (run : State → State) :
    s.perform [misaligned a, wsRange a 2] run =
      if a.toNat % 2 ≠ 0 then .next (s.faultedWith .misaligned a)
      else if a.toNat + 2 > 4096 then .next (s.faultedWith .wsRange a)
      else .next (run s).completed := by
  simp only [perform_cons hf, perform_nil, misaligned, wsRange, decide_eq_true_eq]

/-- At an even offset whose two bytes exist, neither check is violated, whether or not a fault is recorded. -/
theorem perform_sampleChecks_of_legal {a : Word} (heven : a.toNat % 2 = 0) (hrange : a.toNat + 2 ≤ 4096)
    (run : State → State) : s.perform [misaligned a, wsRange a 2] run = .next (run s).completed := by
  apply perform_of_checks_pass
  simp [misaligned, wsRange, heven, hrange]

theorem exec_bload_eq (hf : s.faulted = false) :
    exec .bload s =
      if s.a1.toNat + s.a2.toNat > 4096 then .next (s.faultedWith .wsRange s.a1)
      else if s.a0.toNat + s.a2.toNat > s.extSize then .next (s.faultedWith .extRange s.a0)
      else .next (commandEffect .bload s).completed :=
  perform_copyChecks hf s.a1 s.a0 s.a2.toNat (commandEffect .bload)

theorem exec_bstore_eq (hf : s.faulted = false) :
    exec .bstore s =
      if s.a0.toNat + s.a2.toNat > 4096 then .next (s.faultedWith .wsRange s.a0)
      else if s.a1.toNat + s.a2.toNat > s.extSize then .next (s.faultedWith .extRange s.a1)
      else .next (commandEffect .bstore s).completed :=
  perform_copyChecks hf s.a0 s.a1 s.a2.toNat (commandEffect .bstore)

theorem exec_srd_eq (hf : s.faulted = false) :
    exec .srd s =
      if s.a0.toNat % 2 ≠ 0 then .next (s.faultedWith .misaligned s.a0)
      else if s.a0.toNat + 2 > 4096 then .next (s.faultedWith .wsRange s.a0)
      else .next (commandEffect .srd s).completed :=
  perform_sampleChecks hf s.a0 (commandEffect .srd)

theorem exec_swr_eq (hf : s.faulted = false) :
    exec .swr s =
      if s.a0.toNat % 2 ≠ 0 then .next (s.faultedWith .misaligned s.a0)
      else if s.a0.toNat + 2 > 4096 then .next (s.faultedWith .wsRange s.a0)
      else .next (commandEffect .swr s).completed :=
  perform_sampleChecks hf s.a0 (commandEffect .swr)

section
variable (heven : s.a0.toNat % 2 = 0) (hrange : s.a0.toNat + 2 ≤ 4096)
include heven hrange

theorem exec_srd_of_legal : exec .srd s = .next (commandEffect .srd s).completed :=
  perform_sampleChecks_of_legal heven hrange (commandEffect .srd)

theorem exec_swr_of_legal : exec .swr s = .next (commandEffect .swr s).completed :=
  perform_sampleChecks_of_legal heven hrange (commandEffect .swr)

end

end

/-! ### The statements -/

/-- Settles O21: the bytes are those of a bulk copy in. -/
theorem bloadCopiesOrFaults : Obligations.BloadCopiesOrFaults := by
  refine ⟨rfl, fun s hf => ?_⟩
  rw [exec_bload_eq hf]
  split_ifs with hws hext
  · rfl
  · rfl
  · exact ⟨_, rfl, wsByteAt_copyIn s.epoch s.ws s.ext _ _ _ (Nat.le_of_not_gt hws)⟩

/-- Settles O22: the bytes are those of a bulk copy out. -/
theorem bstoreCopiesOrFaults : Obligations.BstoreCopiesOrFaults := by
  refine ⟨rfl, fun s hf => ?_⟩
  rw [exec_bstore_eq hf]
  split_ifs with hws hext
  · rfl
  · rfl
  · exact ⟨_, rfl, extByteAt_copyOut s.extSize s.ext s.epoch s.ws _ _ _ (Nat.le_of_not_gt hext)⟩

/-- Settles O23: the sign extension keeps the sample, which is its two bytes big-endian. -/
theorem srdReadsSampleOrFaults : Obligations.SrdReadsSampleOrFaults := by
  refine ⟨rfl, fun s hf => ?_⟩
  rw [exec_srd_eq hf]
  split_ifs with hodd hws
  · rfl
  · rfl
  · exact ⟨sext32 (s.sample s.a0.toNat), rfl, (sext32_toInt _).trans (sampleAt_toInt s.epoch s.ws _)⟩

/-- Settles O24: the two bytes are those of a sample write. -/
theorem swrWritesSampleOrFaults : Obligations.SwrWritesSampleOrFaults := by
  refine ⟨rfl, fun s hf => ?_⟩
  rw [exec_swr_eq hf]
  split_ifs with hodd hws
  · rfl
  · rfl
  · exact ⟨_, rfl, wsByteAt_putSample_low16 s.epoch s.ws (Nat.le_of_not_gt hws) s.a1⟩

/-- Settles O25: both commands complete, and the sample read is the one just written (rule R87). -/
theorem srdAfterSwrReturnsValue : Obligations.SrdAfterSwrReturnsValue := by
  intro s heven hrange
  refine ⟨_, _, exec_swr_of_legal heven hrange, exec_srd_of_legal heven hrange, ?_, rfl⟩
  calc (sext32 (sampleAt s.epoch (putSample s.ws s.a0.toNat (low16 s.a1)) s.a0.toNat)).toInt
      = (low16 s.a1).toInt := by rw [sampleAt_putSample_self _ _ hrange, sext32_toInt]
    _ = int16 s.a1.toNat := low16_toInt s.a1

end Sys2Proof.Machine

/-! ## The butterfly network (42_butterfly.md): the combine step, a stage as disjoint combine steps, and the BFLY command -/

namespace Sys2Proof.Machine

/-! ### The combine step (rule R92) -/

section
variable (mode : MulshMode) (v : Lanes) {i j k : Fin 16} (w : Word)

theorem combine_getElem_sum (hij : i ≠ j) : (combine mode v i j w)[i] = v[i] + v[j] := by
  have hji : j.val ≠ i.val := fun h => hij (Fin.ext h.symm)
  simp [combine, hji]

theorem combine_getElem_difference : (combine mode v i j w)[j] = mulShift16 mode (v[i] - v[j]) w := by
  simp [combine]

theorem combine_getElem_of_ne (hi : k ≠ i) (hj : k ≠ j) : (combine mode v i j w)[k] = v[k] := by
  have hik : i.val ≠ k.val := fun h => hi (Fin.ext h.symm)
  have hjk : j.val ≠ k.val := fun h => hj (Fin.ext h.symm)
  simp [combine, hik, hjk]

end

theorem mulShift16_zero_left (mode : MulshMode) (y : Word) : mulShift16 mode 0#32 y = 0#32 := by
  cases mode <;> simp [mulShift16]

/-- Zero lanes stay zero under every weight (rule R100). -/
theorem combine_zero (mode : MulshMode) (i j : Fin 16) (w : Word) :
    combine mode (Vector.replicate 16 0) i j w = Vector.replicate 16 0 := by
  refine Vector.ext fun k hk => ?_
  simp [combine, mulShift16_zero_left]

/-! ### A list of combine steps -/

/-- One call of `combine`: its two lanes and its weight. -/
structure CombineStep where
  sumLane : Fin 16
  differenceLane : Fin 16
  weight : Word

def CombineStep.lanes (p : CombineStep) : List (Fin 16) := [p.sumLane, p.differenceLane]

@[simp] theorem CombineStep.mem_lanes {p : CombineStep} {k : Fin 16} :
    k ∈ p.lanes ↔ k = p.sumLane ∨ k = p.differenceLane := by
  simp [lanes]

/-- Combine steps performed one after another; the stages of the model are such lists (`stage1_eq` to `stage4_eq`). -/
def combineAll (mode : MulshMode) (ps : List CombineStep) (v : Lanes) : Lanes :=
  ps.foldl (fun v p => combine mode v p.sumLane p.differenceLane p.weight) v

/-- What a combine step that starts from the lanes `v` leaves in its two lanes of `u`. -/
def CombineStep.Performed (mode : MulshMode) (v u : Lanes) (p : CombineStep) : Prop :=
  u[p.sumLane] = v[p.sumLane] + v[p.differenceLane] ∧
  u[p.differenceLane] = mulShift16 mode (v[p.sumLane] - v[p.differenceLane]) p.weight

section
variable {mode : MulshMode}

theorem combineAll_getElem_of_not_mem {ps : List CombineStep} {k : Fin 16} (h : k ∉ ps.flatMap CombineStep.lanes)
    (v : Lanes) : (combineAll mode ps v)[k] = v[k] := by
  induction ps generalizing v with
  | nil => rfl
  | cons p rest ih =>
    simp only [List.flatMap_cons, List.mem_append, CombineStep.mem_lanes, not_or] at h
    obtain ⟨⟨hsum, hdifference⟩, hrest⟩ := h
    exact (ih hrest _).trans (combine_getElem_of_ne mode v p.weight hsum hdifference)

/-- Steps on disjoint lane pairs each see the lanes before the first of them (rule R93). -/
theorem combineAll_performs {ps : List CombineStep} (hd : (ps.flatMap CombineStep.lanes).Nodup) (v : Lanes) :
    ∀ p ∈ ps, p.Performed mode v (combineAll mode ps v) := by
  induction ps generalizing v with
  | nil => simp
  | cons p rest ih =>
    rw [List.flatMap_cons, List.nodup_append] at hd
    obtain ⟨hp, hrest, hapart⟩ := hd
    have hne : p.sumLane ≠ p.differenceLane := by simpa [CombineStep.lanes] using hp
    have kept : ∀ k ∈ rest.flatMap CombineStep.lanes,
        (combine mode v p.sumLane p.differenceLane p.weight)[k] = v[k] := fun k hk =>
      combine_getElem_of_ne mode v p.weight (hapart _ (by simp) k hk).symm (hapart _ (by simp) k hk).symm
    have final : ∀ k ∈ p.lanes, (combineAll mode (p :: rest) v)[k] =
        (combine mode v p.sumLane p.differenceLane p.weight)[k] := fun k hk =>
      combineAll_getElem_of_not_mem (fun hmem => hapart k hk k hmem rfl) _
    intro q hq
    rcases List.mem_cons.mp hq with rfl | hq
    · constructor
      · rw [final _ (by simp), combine_getElem_sum mode v _ hne]
      · rw [final _ (by simp), combine_getElem_difference]
    · have hsum := kept q.sumLane (List.mem_flatMap.mpr ⟨q, hq, by simp⟩)
      have hdifference := kept q.differenceLane (List.mem_flatMap.mpr ⟨q, hq, by simp⟩)
      have hq' := ih hrest (combine mode v p.sumLane p.differenceLane p.weight) q hq
      rwa [CombineStep.Performed, hsum, hdifference] at hq'

end

/-! ### The stages (rules R94 to R97) -/

section
variable (c : Config)

/-- Stage 1, 8-wide (rule R94). -/
def stage1Steps : List CombineStep :=
  (List.finRange 8).map fun i : Fin 8 => ⟨⟨i, by omega⟩, ⟨8 + i, by omega⟩, c.w8[i].setWidth 32⟩

/-- Stage 2, 4-wide (rule R95). -/
def stage2Steps : List CombineStep :=
  (List.finRange 4).flatMap fun i : Fin 4 =>
    [⟨⟨i, by omega⟩, ⟨4 + i, by omega⟩, c.w4[i].setWidth 32⟩,
      ⟨⟨8 + i, by omega⟩, ⟨12 + i, by omega⟩, c.w4[i].setWidth 32⟩]

/-- Stage 3, 2-wide (rule R96). -/
def stage3Steps : List CombineStep :=
  (List.finRange 4).flatMap fun q : Fin 4 =>
    [⟨⟨4 * q, by omega⟩, ⟨4 * q + 2, by omega⟩, c.w2[0].setWidth 32⟩,
      ⟨⟨4 * q + 1, by omega⟩, ⟨4 * q + 3, by omega⟩, c.w2[1].setWidth 32⟩]

/-- Stage 4, 1-wide (rule R97). -/
def stage4Steps : List CombineStep :=
  (List.finRange 8).map fun j : Fin 8 =>
    ⟨⟨2 * j, by omega⟩, ⟨2 * j + 1, by omega⟩, c.scale[c.scaleSel[j]].setWidth 32⟩

theorem stage1_eq (v : Lanes) : stage1 c v = combineAll c.mulshMode (stage1Steps c) v := by
  rw [combineAll, stage1Steps, List.foldl_map, stage1]

theorem stage2_eq (v : Lanes) : stage2 c v = combineAll c.mulshMode (stage2Steps c) v := by
  rw [combineAll, stage2Steps, List.foldl_flatMap]
  rfl

theorem stage3_eq (v : Lanes) : stage3 c v = combineAll c.mulshMode (stage3Steps c) v := by
  rw [combineAll, stage3Steps, List.foldl_flatMap]
  rfl

theorem stage4_eq (v : Lanes) : stage4 c v = combineAll c.mulshMode (stage4Steps c) v := by
  rw [combineAll, stage4Steps, List.foldl_map, stage4]

theorem stage1Steps_disjoint : ((stage1Steps c).flatMap CombineStep.lanes).Nodup :=
  show [(0 : Fin 16), 8, 1, 9, 2, 10, 3, 11, 4, 12, 5, 13, 6, 14, 7, 15].Nodup by decide

theorem stage2Steps_disjoint : ((stage2Steps c).flatMap CombineStep.lanes).Nodup :=
  show [(0 : Fin 16), 4, 8, 12, 1, 5, 9, 13, 2, 6, 10, 14, 3, 7, 11, 15].Nodup by decide

theorem stage3Steps_disjoint : ((stage3Steps c).flatMap CombineStep.lanes).Nodup :=
  show [(0 : Fin 16), 2, 1, 3, 4, 6, 5, 7, 8, 10, 9, 11, 12, 14, 13, 15].Nodup by decide

theorem stage4Steps_disjoint : ((stage4Steps c).flatMap CombineStep.lanes).Nodup :=
  show [(0 : Fin 16), 1, 2, 3, 4, 5, 6, 7, 8, 9, 10, 11, 12, 13, 14, 15].Nodup by decide

variable (v : Lanes)

theorem stage1_lanes {i : Nat} (h : i < 8) :
    (stage1 c v)[i] = v[i] + v[8 + i] ∧
    (stage1 c v)[8 + i] = mulShift16 c.mulshMode (v[i] - v[8 + i]) (c.w8[i].setWidth 32) := by
  rw [stage1_eq]
  have hp := combineAll_performs (mode := c.mulshMode) (stage1Steps_disjoint c) v _
    (List.mem_map_of_mem (List.mem_finRange ⟨i, h⟩))
  exact hp

theorem stage2_lanes {i : Nat} (h : i < 4) :
    (stage2 c v)[i] = v[i] + v[4 + i] ∧
    (stage2 c v)[4 + i] = mulShift16 c.mulshMode (v[i] - v[4 + i]) (c.w4[i].setWidth 32) ∧
    (stage2 c v)[8 + i] = v[8 + i] + v[12 + i] ∧
    (stage2 c v)[12 + i] = mulShift16 c.mulshMode (v[8 + i] - v[12 + i]) (c.w4[i].setWidth 32) := by
  rw [stage2_eq]
  have hp := combineAll_performs (mode := c.mulshMode) (stage2Steps_disjoint c) v
  obtain ⟨hsum, hdifference⟩ := hp _ (List.mem_flatMap.mpr ⟨⟨i, h⟩, List.mem_finRange _, List.mem_cons_self⟩)
  have hupper := hp _
    (List.mem_flatMap.mpr ⟨⟨i, h⟩, List.mem_finRange _, List.mem_cons_of_mem _ List.mem_cons_self⟩)
  exact ⟨hsum, hdifference, hupper⟩

theorem stage3_lanes {q : Nat} (h : q < 4) :
    (stage3 c v)[4 * q] = v[4 * q] + v[4 * q + 2] ∧
    (stage3 c v)[4 * q + 2] = mulShift16 c.mulshMode (v[4 * q] - v[4 * q + 2]) (c.w2[0].setWidth 32) ∧
    (stage3 c v)[4 * q + 1] = v[4 * q + 1] + v[4 * q + 3] ∧
    (stage3 c v)[4 * q + 3] = mulShift16 c.mulshMode (v[4 * q + 1] - v[4 * q + 3]) (c.w2[1].setWidth 32) := by
  rw [stage3_eq]
  have hp := combineAll_performs (mode := c.mulshMode) (stage3Steps_disjoint c) v
  obtain ⟨hsum, hdifference⟩ := hp _ (List.mem_flatMap.mpr ⟨⟨q, h⟩, List.mem_finRange _, List.mem_cons_self⟩)
  have hsecond := hp _
    (List.mem_flatMap.mpr ⟨⟨q, h⟩, List.mem_finRange _, List.mem_cons_of_mem _ List.mem_cons_self⟩)
  exact ⟨hsum, hdifference, hsecond⟩

theorem stage4_lanes {j : Nat} (h : j < 8) :
    (stage4 c v)[2 * j] = v[2 * j] + v[2 * j + 1] ∧
    (stage4 c v)[2 * j + 1] =
      mulShift16 c.mulshMode (v[2 * j] - v[2 * j + 1]) (c.scale[c.scaleSel[j]].setWidth 32) := by
  rw [stage4_eq]
  have hp := combineAll_performs (mode := c.mulshMode) (stage4Steps_disjoint c) v _
    (List.mem_map_of_mem (List.mem_finRange ⟨j, h⟩))
  exact hp

end

/-! ### The correction and the whole network (rules R93, R98) -/

/-- A left shift by n is the product by 2^n (00_scope.md rule R14). -/
theorem correct_getElem (v : Lanes) {k : Nat} (h : k < 16) :
    (correct v)[k] = if k = 6 ∨ k = 10 ∨ k = 12 then 2 * v[k] else if k = 14 then 4 * v[k] else v[k] := by
  have double : ∀ x : Word, x <<< 1 = 2 * x := fun x => by bv_omega
  have quadruple : ∀ x : Word, x <<< 2 = 4 * x := fun x => by bv_omega
  by_cases hk : k = 6 ∨ k = 10 ∨ k = 12 ∨ k = 14
  · rcases hk with rfl | rfl | rfl | rfl <;> simp [correct, double, quadruple]
  · obtain ⟨h6, h10, h12, h14⟩ : 6 ≠ k ∧ 10 ≠ k ∧ 12 ≠ k ∧ 14 ≠ k := by omega
    simp [correct, h6, h10, h12, h14, h6.symm, h10.symm, h12.symm, h14.symm]

/-- Lane 0 meets sums only: each stage halves the lanes it is the sum of. -/
theorem butterfly_getElem_zero (c : Config) (v : Lanes) :
    (butterfly c v)[0] =
      v[0] + v[1] + v[2] + v[3] + v[4] + v[5] + v[6] + v[7] +
      v[8] + v[9] + v[10] + v[11] + v[12] + v[13] + v[14] + v[15] := by
  have sum1 {i : Nat} (h : i < 8) (u : Lanes) : (stage1 c u)[i] = u[i] + u[8 + i] := (stage1_lanes c u h).1
  have sum2 {i : Nat} (h : i < 4) (u : Lanes) : (stage2 c u)[i] = u[i] + u[4 + i] := (stage2_lanes c u h).1
  have sum3 (u : Lanes) : (stage3 c u)[0] = u[0] + u[2] ∧ (stage3 c u)[1] = u[1] + u[3] := by
    obtain ⟨h0, -, h1, -⟩ := stage3_lanes c u (q := 0) (by decide)
    exact ⟨h0, h1⟩
  have sum4 (u : Lanes) : (stage4 c u)[0] = u[0] + u[1] := (stage4_lanes c u (j := 0) (by decide)).1
  calc (butterfly c v)[0]
      = (stage3 c (stage2 c (stage1 c v)))[0] + (stage3 c (stage2 c (stage1 c v)))[1] := by
        rw [butterfly, correct_getElem _ (by decide)]
        exact sum4 _
    _ = (stage1 c v)[0] + (stage1 c v)[4] + ((stage1 c v)[2] + (stage1 c v)[6]) +
          ((stage1 c v)[1] + (stage1 c v)[5] + ((stage1 c v)[3] + (stage1 c v)[7])) := by
        simp only [sum3, sum2, Nat.reduceAdd, Nat.reduceLT]
    _ = _ := by
        simp only [sum1, Nat.reduceAdd, Nat.reduceLT]
        ac_rfl

theorem butterfly_zero (c : Config) : butterfly c (Vector.replicate 16 0) = Vector.replicate 16 0 := by
  have stage (ps : List CombineStep) :
      combineAll c.mulshMode ps (Vector.replicate 16 0) = Vector.replicate 16 0 :=
    List.foldl_fixed' (fun p => combine_zero c.mulshMode p.sumLane p.differenceLane p.weight) ps
  rw [butterfly, stage1_eq, stage, stage2_eq, stage, stage3_eq, stage, stage4_eq, stage]
  rfl

/-- BFLY has no precondition (rule R99). -/
theorem exec_bfly_eq (s : State) : exec .bfly s = .next { s with v := butterfly s.cfg s.v, lastOk := true } := rfl

/-! ### The statements -/

/-- Settles O27: the stages are disjoint combine steps, so each lane is its own step's. -/
theorem butterflyStageLanes : Obligations.ButterflyStageLanes := fun c v =>
  ⟨rfl, fun _ => stage1_lanes c v, fun _ => stage2_lanes c v, fun _ => stage3_lanes c v, fun _ => stage4_lanes c v,
    fun _ => correct_getElem v⟩

/-- Settles O28: BFLY has no precondition; lane 0 meets sums only. -/
theorem bflyWritesButterflyOfV : Obligations.BflyWritesButterflyOfV :=
  ⟨rfl, fun s => ⟨exec_bfly_eq s, butterfly_getElem_zero s.cfg s.v⟩⟩

/-- Settles O29: the zero lanes are a fixed point of every combine step and of the correction. -/
theorem bflyOfZeroIsZero : Obligations.BflyOfZeroIsZero := by
  intro s hv
  rw [exec_bfly_eq, hv, butterfly_zero, ← hv]

/-- Settles O26: one law of `combine` per lane. -/
theorem combineKeepsSumAndDifference : Obligations.CombineKeepsSumAndDifference := fun mode v _ _ w hij =>
  ⟨combine_getElem_sum mode v w hij, combine_getElem_difference mode v w,
    fun _ => combine_getElem_of_ne mode v w⟩

end Sys2Proof.Machine

/-! ## The synthesis transform (43_synthesis.md): SYNTH as 33 sample writes, and the statements about them -/

namespace Sys2Proof.Machine

/-! ### The rows written (rules R106, R109, R110) -/

/-- The offset of a history row: the 16 rows of the NEW slot at N, the 17 of the PREV slot at P. -/
def rowOffset (N P : Nat) : Fin 16 ⊕ Fin 17 → Nat
  | .inl r => N + 0x20 * r
  | .inr r => P + 0x20 * r

/-- The rows of the even pass in the order of rule R105; tied to the model by `evenOrder_offsets`. -/
def evenRows : List (Fin 16 ⊕ Fin 17) :=
  [.inl 0, .inr 16, .inr 0, .inr 8, .inl 8, .inr 12, .inl 12, .inr 4, .inl 4, .inl 2, .inl 6, .inl 10, .inl 14,
    .inr 10, .inr 14, .inr 2, .inr 6]

/-- The rows of the odd pass in the order of rule R108; tied to the model by `oddOrder_offsets`. -/
def oddRows : List (Fin 16 ⊕ Fin 17) :=
  [.inr 15, .inr 9, .inr 1, .inl 1, .inl 15, .inr 3, .inr 5, .inr 7, .inr 11, .inr 13, .inl 13, .inl 3, .inl 11,
    .inl 9, .inl 7, .inl 5]

/-- The two passes write no row twice. -/
theorem rows_nodup : (evenRows ++ oddRows).Nodup := by decide

/-- The two passes write every row. -/
theorem mem_rows (q : Fin 16 ⊕ Fin 17) : q ∈ evenRows ++ oddRows := by
  have hnew : ∀ r : Fin 16, ∃ p ∈ evenRows ++ oddRows, p = .inl r := by decide
  have hprev : ∀ r : Fin 17, ∃ p ∈ evenRows ++ oddRows, p = .inr r := by decide
  cases q with
  | inl r => simpa using hnew r
  | inr r => simpa using hprev r

theorem evenOrder_offsets (N P : Nat) (b : Lanes) : (evenOrder N P b).map (·.1) = evenRows.map (rowOffset N P) := rfl

theorem oddOrder_offsets (N P : Nat) (d : Lanes) : (oddOrder N P d).map (·.1) = oddRows.map (rowOffset N P) := rfl

theorem rowOffset_add_two_le {N P : Nat} (hN : N + 0x1E2 ≤ 4096) (hP : P + 0x202 ≤ 4096) (q : Fin 16 ⊕ Fin 17) :
    rowOffset N P q + 2 ≤ 4096 := by
  cases q with
  | inl r => simp only [rowOffset]; omega
  | inr r => simp only [rowOffset]; omega

/-- Different rows of slots that are 0x220 or more apart share no byte. -/
theorem rowOffset_apart {N P : Nat} (h : N + 0x220 ≤ P ∨ P + 0x220 ≤ N) {q r : Fin 16 ⊕ Fin 17} (hne : q ≠ r) :
    rowOffset N P q + 2 ≤ rowOffset N P r ∨ rowOffset N P r + 2 ≤ rowOffset N P q := by
  cases q with
  | inl q => cases r with
    | inl r =>
      have hrow : q ≠ r := fun h => hne (congrArg Sum.inl h)
      simp only [rowOffset]
      omega
    | inr r => simp only [rowOffset]; omega
  | inr q => cases r with
    | inl r => simp only [rowOffset]; omega
    | inr r =>
      have hrow : q ≠ r := fun h => hne (congrArg Sum.inr h)
      simp only [rowOffset]
      omega

/-! ### The schedules hold the closed forms (rules R105, R106, R108, R109) -/

/-- The even pass's temporaries t13 and t14 stand for the sums of rule R106. -/
theorem evenWrites_eq_evenOrder (N P : Nat) (b : Lanes) : evenWrites N P b = evenOrder N P b := by
  simp only [evenWrites, evenOrder, List.cons.injEq, Prod.mk.injEq, true_and, and_true]
  constructor
  · abel
  · abel

/-- The odd pass's temporaries h0 to h15 stand for the sums of rule R109. -/
theorem oddWrites_eq_oddOrder (N P : Nat) (d : Lanes) : oddWrites N P d = oddOrder N P d := by
  simp only [oddWrites, oddOrder, List.cons.injEq, Prod.mk.injEq, true_and, and_true]
  and_intros <;> abel

/-- Every row of the two write tables is a write of the pass that the table is of. -/
theorem historyTable_subset (N P : Nat) (b d : Lanes) : historyTable N P b d ⊆ evenOrder N P b ++ oddOrder N P d := by
  simp only [historyTable, evenOrder, oddOrder, List.cons_append, List.nil_append, List.cons_subset, List.mem_cons,
    List.nil_subset, true_or, or_true, and_true]

/-! ### SYNTH as one list of writes -/

/-- The rule's even input (R104) is the model's. -/
theorem State.mirroredSums_eq (s : State) (I : Nat) : s.mirroredSums I = evenInput s.cfg s.epoch s.ws I := rfl

/-- The rule's odd input (R107) is the model's. -/
theorem State.weightedDifferences_eq (s : State) (I : Nat) :
    s.weightedDifferences I = oddInput s.cfg s.epoch s.ws I := rfl

/-- The 33 writes of the transform in order: the even pass, for the input as found, then the odd pass, for the input as
the even pass left it (rule R103); tied to the model by `synthesis_eq_putSamples`. -/
def synthesisWrites (c : Config) (e : Nat) (ws : Memory) (I N P : Nat) : List (Nat × Word) :=
  evenOrder N P (butterfly c (evenInput c e ws I)) ++
    oddOrder N P (butterfly c (oddInput c e (evenPass c e ws I N P) I))

theorem evenPass_eq (c : Config) (e : Nat) (ws : Memory) (I N P : Nat) :
    evenPass c e ws I N P = putSamples ws (evenOrder N P (butterfly c (evenInput c e ws I))) := by
  rw [evenPass, evenWrites_eq_evenOrder]

theorem putSamples_append (m : Memory) (l l' : List (Nat × Word)) :
    putSamples m (l ++ l') = putSamples (putSamples m l) l' :=
  List.foldl_append

section
variable (c : Config) (e : Nat) (ws : Memory) (I N P : Nat)

theorem synthesis_eq_putSamples :
    synthesis c e ws I N P = putSamples ws (synthesisWrites c e ws I N P) := by
  rw [synthesisWrites, putSamples_append, ← evenPass_eq, ← oddWrites_eq_oddOrder]
  rfl

theorem synthesisWrites_offsets :
    (synthesisWrites c e ws I N P).map (·.1) = (evenRows ++ oddRows).map (rowOffset N P) := by
  rw [synthesisWrites, List.map_append, evenOrder_offsets, oddOrder_offsets, List.map_append]

/-- Every row has a write of the transform. -/
theorem exists_synthesisWrite (q : Fin 16 ⊕ Fin 17) : ∃ w ∈ synthesisWrites c e ws I N P, w.1 = rowOffset N P q := by
  have h := List.mem_map_of_mem (f := rowOffset N P) (mem_rows q)
  rw [← synthesisWrites_offsets c e ws I] at h
  exact List.mem_map.mp h

variable {N P}

/-- Every write of the transform is at a row, which legal operands keep inside the workspace (rule R111). -/
theorem synthesisWrites_range (hN : N + 0x1E2 ≤ 4096) (hP : P + 0x202 ≤ 4096) {w : Nat × Word}
    (hw : w ∈ synthesisWrites c e ws I N P) : w.1 + 2 ≤ 4096 := by
  have h := List.mem_map_of_mem (f := (·.1)) hw
  rw [synthesisWrites_offsets] at h
  obtain ⟨q, -, hq⟩ := List.mem_map.mp h
  rw [← hq]
  exact rowOffset_add_two_le hN hP q

/-- The writes of slots that are 0x220 or more apart share no byte. -/
theorem synthesisWrites_apart (h : N + 0x220 ≤ P ∨ P + 0x220 ≤ N) :
    (synthesisWrites c e ws I N P).Pairwise fun w w' => w.1 + 2 ≤ w'.1 ∨ w'.1 + 2 ≤ w.1 := by
  have hrows : ((evenRows ++ oddRows).map (rowOffset N P)).Pairwise fun a b => a + 2 ≤ b ∨ b + 2 ≤ a :=
    List.pairwise_map.mpr (rows_nodup.imp fun hne => rowOffset_apart h hne)
  rw [← synthesisWrites_offsets c e ws I] at hrows
  exact List.pairwise_map.mp hrows

end

/-! ### Writes one after another -/

theorem storesSample_putSample (e : Nat) (m : Memory) {a : Nat} (ha : a + 2 ≤ 4096) (v : Half) :
    StoresSample e m (putSample m a v) a v :=
  ⟨sampleAt_putSample_self e m ha v, fun _ h0 h1 => wsByteAt_putSample_of_ne e m v h0 h1⟩

/-- The j-th write takes the workspace after j writes to that after j + 1. -/
theorem putSamples_take_succ (m : Memory) {l : List (Nat × Word)} {j : Nat} {w : Nat × Word} (h : l[j]? = some w) :
    putSamples m (l.take (j + 1)) = putSample (putSamples m (l.take j)) w.1 (w.2.setWidth 16) := by
  rw [List.take_add_one, h, Option.toList_some, putSamples_append]
  rfl

/-- After its first 17 writes the transform has made its even pass. -/
theorem putSamples_take_synthesisWrites (c : Config) (e : Nat) (ws : Memory) (I N P : Nat) :
    putSamples ws ((synthesisWrites c e ws I N P).take 17) = evenPass c e ws I N P := by
  have heven : (evenOrder N P (butterfly c (evenInput c e ws I))).length = 17 := rfl
  rw [synthesisWrites, List.take_left' heven, evenPass_eq]

/-- An input apart from both slots is reloaded as it was found (rules R103, R112). -/
theorem oddInput_evenPass_of_apart (c : Config) (e : Nat) (ws : Memory) {I N P : Nat}
    (hN : I + 0x40 ≤ N ∨ N + 0x220 ≤ I) (hP : I + 0x40 ≤ P ∨ P + 0x220 ≤ I) :
    oddInput c e (evenPass c e ws I N P) I = oddInput c e ws I := by
  have hkept (k : Fin 32) : inputSample e (evenPass c e ws I N P) I k = inputSample e ws I k := by
    refine congrArg sext32 (sampleAt_putSamples_of_apart e ws _ _ fun w hw => ?_)
    rcases evenWrites_rows N P _ w hw with ⟨r, hr, h⟩ | ⟨r, hr, h⟩
    · omega
    · omega
  simp only [oddInput, hkept]

/-! ### Zeros -/

/-- A sample is zero when its two bytes are. -/
theorem sampleAt_eq_zero_iff (e : Nat) (m : Memory) (a : Nat) :
    sampleAt e m a = 0 ↔ wsByteAt e m a = 0 ∧ wsByteAt e m (a + 1) = 0 := by
  rw [sampleAt, ← BitVec.toNat_inj, ← BitVec.toNat_inj, ← BitVec.toNat_inj, BitVec.toNat_append]
  simp [Nat.or_eq_zero_iff, Nat.shiftLeft_eq_zero_iff]

/-- A zero byte stays zero under writes of zero, wherever they lie. -/
theorem wsByteAt_putSamples_zero (e : Nat) {m : Memory} {l : List (Nat × Word)} (hl : ∀ w ∈ l, w.2 = 0) {x : Nat}
    (hx : wsByteAt e m x = 0) : wsByteAt e (putSamples m l) x = 0 := by
  induction l generalizing m with
  | nil => exact hx
  | cons w rest ih =>
    refine ih (m := putSample m w.1 (w.2.setWidth 16)) (fun w' hw' => hl w' (List.mem_cons_of_mem w hw')) ?_
    rw [hl w List.mem_cons_self, wsByteAt_putSample, hx]
    split_ifs <;> rfl

theorem sampleAt_putSamples_zero (e : Nat) {m : Memory} {l : List (Nat × Word)} (hl : ∀ w ∈ l, w.2 = 0) {a : Nat}
    (ha : sampleAt e m a = 0) : sampleAt e (putSamples m l) a = 0 := by
  obtain ⟨h0, h1⟩ := (sampleAt_eq_zero_iff e m a).mp ha
  exact (sampleAt_eq_zero_iff e _ a).mpr ⟨wsByteAt_putSamples_zero e hl h0, wsByteAt_putSamples_zero e hl h1⟩

/-- Each place that writes of zero reach holds zero after them, overlapping or not. -/
theorem sampleAt_putSamples_zero_of_mem (e : Nat) {m : Memory} {l : List (Nat × Word)} (hl : ∀ w ∈ l, w.2 = 0)
    {w : Nat × Word} (hw : w ∈ l) (ha : w.1 + 2 ≤ 4096) : sampleAt e (putSamples m l) w.1 = 0 := by
  induction l generalizing m with
  | nil => simp at hw
  | cons w' rest ih =>
    obtain ⟨hw', hrest⟩ := List.forall_mem_cons.mp hl
    rcases List.mem_cons.mp hw with rfl | hmem
    · refine sampleAt_putSamples_zero e (m := putSample m w.1 (w.2.setWidth 16)) hrest ?_
      rw [sampleAt_putSample_self e m ha, hw']
      rfl
    · exact ih hrest hmem

section
variable {c : Config} {e : Nat} {ws : Memory} {I : Nat} (h : ∀ k < 32, sampleAt e ws (I + 2 * k) = 0)
include h

theorem inputSample_of_zero (k : Fin 32) : inputSample e ws I k = 0 := by
  rw [inputSample, h k k.isLt]
  rfl

theorem evenInput_of_zero : evenInput c e ws I = Vector.replicate 16 0 := by
  refine Vector.ext fun i hi => ?_
  simp [evenInput, inputSample_of_zero h]

theorem oddInput_of_zero : oddInput c e ws I = Vector.replicate 16 0 := by
  refine Vector.ext fun i hi => ?_
  simp [oddInput, inputSample_of_zero h, mulShift16_zero_left]

end

theorem evenOrder_zero (N P : Nat) : ∀ w ∈ evenOrder N P (Vector.replicate 16 0), w.2 = 0 := by
  simp [evenOrder]

theorem oddOrder_zero (N P : Nat) : ∀ w ∈ oddOrder N P (Vector.replicate 16 0), w.2 = 0 := by
  simp [oddOrder]

/-- Zero input gives zero writes: the even pass's zeros leave the input zero for the odd pass (rule R112). -/
theorem synthesisWrites_of_zero (c : Config) {e : Nat} {ws : Memory} {I : Nat}
    (h : ∀ k < 32, sampleAt e ws (I + 2 * k) = 0) (N P : Nat) : ∀ w ∈ synthesisWrites c e ws I N P, w.2 = 0 := by
  have heven : ∀ w ∈ evenOrder N P (butterfly c (evenInput c e ws I)), w.2 = 0 := by
    rw [evenInput_of_zero h, butterfly_zero]
    exact evenOrder_zero N P
  have hreload : ∀ k < 32, sampleAt e (evenPass c e ws I N P) (I + 2 * k) = 0 := fun k hk => by
    rw [evenPass_eq]
    exact sampleAt_putSamples_zero e heven (h k hk)
  have hodd : ∀ w ∈ oddOrder N P (butterfly c (oddInput c e (evenPass c e ws I N P) I)), w.2 = 0 := by
    rw [oddInput_of_zero hreload, butterfly_zero]
    exact oddOrder_zero N P
  exact List.forall_mem_append.mpr ⟨heven, hodd⟩

/-! ### The command (rule R111) -/

/-- An outcome that a check decides: the fault where it is violated, else what the remaining checks give. -/
theorem ite_of_eq_ite {p : Prop} [Decidable p] {o fault rest : Out} {q : Prop} (h : o = if p then fault else rest)
    (hq : o = rest → q) : if p then o = fault else q := by
  split
  · next hp => rwa [if_pos hp] at h
  · next hp => exact hq (by rwa [if_neg hp] at h)

/-- SYNTH's checks in the order of rule R111, for regions of any length at its three operands. -/
theorem perform_synthChecks {s : State} (hf : s.faulted = false) (I N P : Word) (lI lN lP : Nat) {run : State → State}
    {o : Out} {q : Prop}
    (ho : o = s.perform [misaligned I, misaligned N, misaligned P, wsRange I lI, wsRange N lN, wsRange P lP] run)
    (hq : o = .next (run s).completed → q) :
    if I.toNat % 2 ≠ 0 then o = .next (s.faultedWith .misaligned I)
    else if N.toNat % 2 ≠ 0 then o = .next (s.faultedWith .misaligned N)
    else if P.toNat % 2 ≠ 0 then o = .next (s.faultedWith .misaligned P)
    else if I.toNat + lI > 4096 then o = .next (s.faultedWith .wsRange I)
    else if N.toNat + lN > 4096 then o = .next (s.faultedWith .wsRange N)
    else if P.toNat + lP > 4096 then o = .next (s.faultedWith .wsRange P)
    else q := by
  simp only [perform_cons hf, perform_nil, misaligned, wsRange, decide_eq_true_eq] at ho
  exact ite_of_eq_ite ho fun h => ite_of_eq_ite h fun h => ite_of_eq_ite h fun h => ite_of_eq_ite h fun h =>
    ite_of_eq_ite h fun h => ite_of_eq_ite h hq

/-- The writes of SYNTH, whose operands are I = A0, N = A1, P = A2. -/
def State.synthWrites (s : State) : List (Nat × Word) :=
  synthesisWrites s.cfg s.epoch s.ws s.a0.toNat s.a1.toNat s.a2.toNat

theorem State.synthWrites_range {s : State} (hNr : s.a1.toNat + 0x1E2 ≤ 4096) (hPr : s.a2.toNat + 0x202 ≤ 4096)
    {w : Nat × Word} (hw : w ∈ s.synthWrites) : w.1 + 2 ≤ 4096 :=
  synthesisWrites_range s.cfg s.epoch s.ws s.a0.toNat hNr hPr hw

section
variable {s : State} (hI : s.a0.toNat % 2 = 0) (hN : s.a1.toNat % 2 = 0) (hP : s.a2.toNat % 2 = 0)
  (hIr : s.a0.toNat + 0x40 ≤ 4096) (hNr : s.a1.toNat + 0x1E2 ≤ 4096) (hPr : s.a2.toNat + 0x202 ≤ 4096)
include hI hN hP hIr hNr hPr

/-- With legal operands SYNTH makes its 33 writes, whether or not a fault is recorded. -/
theorem exec_synth_of_legal :
    exec .synth s = .next { s with ws := putSamples s.ws s.synthWrites, lastOk := true } := by
  rw [State.synthWrites, ← synthesis_eq_putSamples]
  refine perform_of_checks_pass (commandEffect .synth) ?_
  simp [misaligned, wsRange, hI, hN, hP, hIr, hNr, hPr]

end

/-! ### The statements -/

/-- Settles O30: the chain of SYNTH's checks, then a transform that writes only its rows. -/
theorem synthFaultsOrWritesItsRows : Obligations.SynthFaultsOrWritesItsRows := by
  refine ⟨rfl, fun s hf => ?_⟩
  have hexec := exec_eq_perform .synth s nofun
  exact perform_synthChecks hf s.a0 s.a1 s.a2 0x40 0x1E2 0x202 hexec fun h =>
    ⟨_, h, wsByteAt_synthesis_of_outside s.cfg s.epoch s.ws _ _ _⟩

/-- Settles O31: no two of the writes share a byte, so each row keeps its own; the even pass misses the input. -/
theorem synthStoresClosedForms : Obligations.SynthStoresClosedForms := by
  intro s hI hN hP hIr hNr hPr hslots hIN hIP
  refine ⟨_, exec_synth_of_legal hI hN hP hIr hNr hPr, fun x hx => ?_⟩
  rw [State.mirroredSums_eq, State.weightedDifferences_eq,
    ← oddInput_evenPass_of_apart s.cfg s.epoch s.ws hIN hIP] at hx
  have hmem : x ∈ s.synthWrites := historyTable_subset _ _ _ _ hx
  have hrange := State.synthWrites_range hNr hPr hmem
  exact (sampleAt_putSamples_of_mem s.epoch s.ws _ (synthesisWrites_apart _ _ _ _ hslots) hmem hrange).trans
    (low16_eq_extractLsb x.2)

/-- Settles O32: the workspaces after the first j of the 33 writes; the one after 17 is that of the even pass. -/
theorem synthWritesInOrder : Obligations.SynthWritesInOrder := by
  intro s hI hN hP hIr hNr hPr
  have heven := putSamples_take_synthesisWrites s.cfg s.epoch s.ws s.a0.toNat s.a1.toNat s.a2.toNat
  refine ⟨fun j => putSamples s.ws (s.synthWrites.take j), rfl, exec_synth_of_legal hI hN hP hIr hNr hPr,
    fun j x hx => ?_⟩
  have hj : s.synthWrites[j]? = some x := by
    rw [State.mirroredSums_eq, State.weightedDifferences_eq] at hx
    rw [State.synthWrites, synthesisWrites, ← heven]
    exact hx
  have hrange := State.synthWrites_range hNr hPr (List.mem_of_getElem? hj)
  rw [← low16_eq_extractLsb]
  beta_reduce
  rw [putSamples_take_succ s.ws hj]
  exact storesSample_putSample s.epoch _ hrange _

/-- Settles O33: every write is of zero, and every row has one. -/
theorem synthOfZeroInputStoresZero : Obligations.SynthOfZeroInputStoresZero := by
  intro s hI hN hP hIr hNr hPr hzero
  refine ⟨_, exec_synth_of_legal hI hN hP hIr hNr hPr, ?_⟩
  have row (q : Fin 16 ⊕ Fin 17) :
      sampleAt s.epoch (putSamples s.ws s.synthWrites) (rowOffset s.a1.toNat s.a2.toNat q) = 0 := by
    obtain ⟨w, hw, hq⟩ := exists_synthesisWrite s.cfg s.epoch s.ws s.a0.toNat s.a1.toNat s.a2.toNat q
    rw [← hq]
    exact sampleAt_putSamples_zero_of_mem s.epoch (synthesisWrites_of_zero s.cfg hzero _ _) hw
      (State.synthWrites_range hNr hPr hw)
  exact ⟨fun r hr => row (.inl ⟨r, hr⟩), fun r hr => row (.inr ⟨r, hr⟩)⟩

end Sys2Proof.Machine

/-! ## The window (44_window.md): the slot operand, an output as an integer, and the WINDOW command -/

namespace Sys2Proof.Machine

/-! ### The slot operand (rules R113, R119) -/

/-- The mask 0xFFE0 drops bits 4:0 and bits 31:16. -/
theorem slotBase_eq (n : Word) : slotBase n = n.toNat / 32 % 2048 * 32 := by
  have hrow : slotBase n / 2 ^ 5 = n.toNat / 32 % 2048 := by
    rw [slotBase, BitVec.toNat_and, Nat.and_div_two_pow]
    exact Nat.and_two_pow_sub_one_eq_mod _ 11
  have hcolumn : slotBase n % 2 ^ 5 = 0 := by
    rw [slotBase, BitVec.toNat_and, Nat.and_mod_two_pow]
    exact Nat.and_zero _
  omega

theorem slotBase_of_lt {n : Word} (h : n.toNat < 0x10000) : slotBase n = n.toNat / 32 * 32 := by
  rw [slotBase_eq, Nat.mod_eq_of_lt (by omega)]

/-- A slot operand is refused when it has more than 16 bits or its 17 rows do not exist. -/
theorem slotRange_bad_iff (n : Word) :
    (slotRange n).bad = true ↔ n.toNat ≥ 0x10000 ∨ n.toNat / 32 * 32 + 0x220 > 4096 := by
  simp only [slotRange, Bool.or_eq_true, decide_eq_true_eq, slotBase_eq]
  omega

theorem slotRange_cause (n : Word) : (slotRange n).cause = .wsRange := rfl

theorem slotRange_info (n : Word) : (slotRange n).info = n := rfl

/-- Flipping bits among 4:0 leaves the operand's row. -/
theorem xor_toNat_div_of_lt (n : Word) {x : Word} (hx : x.toNat < 32) : (n ^^^ x).toNat / 32 = n.toNat / 32 := by
  have hrow : x.toNat / 2 ^ 5 = 0 := Nat.div_eq_of_lt hx
  calc (n ^^^ x).toNat / 2 ^ 5
      = n.toNat / 2 ^ 5 ^^^ x.toNat / 2 ^ 5 := by rw [BitVec.toNat_xor, Nat.xor_div_two_pow]
    _ = n.toNat / 2 ^ 5 := by rw [hrow, Nat.xor_zero]

/-! ### The output as an integer (rules R113 to R118; 00_scope.md rule R13) -/

/-- Narrowing to a half is rule R13's `int16`. -/
theorem ofInt_toInt_eq_int16 (v : Int) : (BitVec.ofInt 16 v).toInt = int16 v := by
  rw [BitVec.toInt_ofInt, Int.bmod_def, int16]
  omega

/-- A 32-bit accumulator's wrap does not reach its low 16 bits. -/
theorem low16_ofInt (v : Int) : low16 (BitVec.ofInt 32 v) = BitVec.ofInt 16 v := by
  apply BitVec.eq_of_toNat_eq
  rw [low16, BitVec.toNat_setWidth, BitVec.toNat_ofInt, BitVec.toNat_ofInt]
  omega

theorem sumOver_cons (k : Nat) (ks : List Nat) (g : Nat → Int) :
    sumOver (k :: ks) g = g k + sumOver ks g :=
  List.sum_cons

theorem sumOver_append (ks ks' : List Nat) (g : Nat → Int) :
    sumOver (ks ++ ks') g = sumOver ks g + sumOver ks' g := by
  simp [sumOver]

/-- An accumulator holds its sum, wrapped to 32 bits. -/
theorem accumulate_ofInt (g : Nat → Int) (ks : List Nat) :
    accumulate (fun k => BitVec.ofInt 32 (g k)) ks = BitVec.ofInt 32 (sumOver ks g) := by
  have hfrom (a : Int) : ks.foldl (fun acc k => acc + BitVec.ofInt 32 (g k)) (BitVec.ofInt 32 a) =
      BitVec.ofInt 32 (a + sumOver ks g) := by
    induction ks generalizing a with
    | nil => simp [sumOver]
    | cons k rest ih => rw [List.foldl_cons, ← BitVec.ofInt_add, ih, sumOver_cons, add_assoc]
  simpa [accumulate] using hfrom 0

/-- accA and accB of rules R114 and R116 together hold the sum over the 16 columns. -/
theorem accumulate_halves_ofInt (g : Nat → Int) :
    accumulate (fun k => BitVec.ofInt 32 (g k)) [0, 1, 2, 3, 4, 5, 6, 7] +
      accumulate (fun k => BitVec.ofInt 32 (g k)) [8, 9, 10, 11, 12, 13, 14, 15] =
    BitVec.ofInt 32 (sumOver columns g) := by
  rw [accumulate_ofInt, accumulate_ofInt, ← BitVec.ofInt_add, ← sumOver_append]
  rfl

/-- Alternating signs are powers of -1, before the wrap as after it (rule R116). -/
theorem alternating_ofInt (g : Nat → Int) :
    alternating (fun k => BitVec.ofInt 32 (g k)) = fun k => BitVec.ofInt 32 ((-1) ^ k * g k) := by
  funext k
  unfold alternating
  split
  · next heven => rw [(Nat.even_iff.mpr heven).neg_one_pow, one_mul]
  · next hne =>
    have hodd : Odd k := Nat.odd_iff.mpr (by omega)
    rw [hodd.neg_one_pow, neg_one_mul, BitVec.ofInt_neg]

/-- A tap is the rule's term: a history sample times a table entry, rounded. -/
theorem tap_eq_ofInt (s : State) (H r base : Nat) :
    tap s.cfg s.epoch s.ws H r base = fun k => BitVec.ofInt 32 (s.windowTerm H r k (base + k)) := rfl

/-- An odd phase selects by `XSEL_ODD`, an even one the other columns (rule R115). -/
theorem crossover_selects_even_iff (p : Nat) (x : TapSel) :
    decide (p % 2 = 1) = decide (x = .evenTaps) ↔
      (p % 2 = 1 ∧ x = .evenTaps) ∨ (p % 2 = 0 ∧ x = .oddTaps) := by
  cases x <;> simp

/-- The value of output j is the rule's integer, wrapped to 32 bits. -/
theorem windowValue_eq_ofInt (s : State) (p H : Nat) {j : Nat} (hj : j < 33) :
    windowValue s.cfg s.epoch s.ws p H j = BitVec.ofInt 32 (s.windowOutput p H j) := by
  unfold windowValue State.windowOutput
  split
  · next hfirst =>
    simp only [firstHalf, tap_eq_ofInt]
    exact accumulate_halves_ofInt _
  · split
    · next hcross =>
      simp only [crossover, tap_eq_ofInt, crossover_selects_even_iff, accumulate_ofInt]
      split <;> rfl
    · next hfirst hcross =>
      -- the m of rule R116 is j - 17
      have hrow : 15 - (j - 17) = 32 - j := by omega
      simp only [secondHalf, tap_eq_ofInt, alternating_ofInt, hrow]
      exact accumulate_halves_ofInt _

/-- What WINDOW stores is the rule's integer, truncated (rules R117, R118). -/
theorem low16_windowValue (s : State) (p H : Nat) {j : Nat} (hj : j < 33) :
    low16 (windowValue s.cfg s.epoch s.ws p H j) = BitVec.ofInt 16 (s.windowOutput p H j) := by
  rw [windowValue_eq_ofInt s p H hj, low16_ofInt]

section
variable (s : State) (p H : Nat)

theorem State.windowOutput_first {n : Nat} (hn : n < 16) : s.windowOutput p H n =
    sumOver columns fun k => s.windowTerm H n k (0x10 - p + 0x20 * n + k) :=
  if_pos hn

theorem State.windowOutput_second (m : Nat) : s.windowOutput p H (17 + m) =
    sumOver columns fun k => (-1) ^ k * s.windowTerm H (15 - m) k (0x22F - p + 0x20 * m + k) := by
  have hrow : 32 - (17 + m) = 15 - m := by omega
  rw [State.windowOutput, if_neg (by omega), if_neg (by omega), hrow, Nat.add_sub_cancel_left]

end

/-! ### The outputs one after another (rules R117, R119) -/

/-- The workspace after the first n of the window's outputs; tied to the model by `windowPass_eq`. -/
def windowOutputs (c : Config) (e : Nat) (ws : Memory) (p H O n : Nat) : Memory :=
  (List.range n).foldl (fun m j => putSample m (O + 2 * j) (low16 (windowValue c e m p H j))) ws

theorem windowPass_eq (c : Config) (e : Nat) (ws : Memory) (p H O : Nat) :
    windowPass c e ws p H O = windowOutputs c e ws p H O 33 := rfl

theorem windowOutputs_succ (c : Config) (e : Nat) (ws : Memory) (p H O n : Nat) :
    windowOutputs c e ws p H O (n + 1) = putSample (windowOutputs c e ws p H O n) (O + 2 * n)
      (low16 (windowValue c e (windowOutputs c e ws p H O n) p H n)) := by
  rw [windowOutputs, List.range_succ, List.foldl_append]
  rfl

/-- Each output is computed from the workspace the output before left, and stored. -/
theorem windowOutputs_storesSample (s : State) (p H : Nat) {O j : Nat} (hO : O + 0x42 ≤ 4096) (hj : j < 33) :
    StoresSample s.epoch (windowOutputs s.cfg s.epoch s.ws p H O j) (windowOutputs s.cfg s.epoch s.ws p H O (j + 1))
      (O + 2 * j)
      (BitVec.ofInt 16 (State.windowOutput { s with ws := windowOutputs s.cfg s.epoch s.ws p H O j } p H j)) := by
  rw [windowOutputs_succ, ← low16_windowValue _ p H hj]
  exact storesSample_putSample s.epoch _ (by omega) _

/-! ### The command (rule R119) -/

theorem commandEffect_window_completed (s : State) :
    (commandEffect .window s).completed = { s with
      ws := windowPass s.cfg s.epoch s.ws s.a0.toNat (slotBase s.a1) s.a2.toNat, lastOk := true } := by
  simp only [commandEffect, State.completed, unsigned]

section
variable {s : State}

/-- WINDOW by its checks, in the order of rule R119. -/
theorem exec_window_eq (hf : s.faulted = false) :
    exec .window s =
      if s.a0.toNat ≥ 16 then .next (s.faultedWith .badPhase s.a0)
      else if s.a2.toNat % 2 ≠ 0 then .next (s.faultedWith .misaligned s.a2)
      else if s.a1.toNat ≥ 0x10000 ∨ s.a1.toNat / 32 * 32 + 0x220 > 4096 then
        .next (s.faultedWith .wsRange s.a1)
      else if s.a2.toNat + 0x42 > 4096 then .next (s.faultedWith .wsRange s.a2)
      else .next { s with
        ws := windowPass s.cfg s.epoch s.ws s.a0.toNat (slotBase s.a1) s.a2.toNat, lastOk := true } := by
  rw [exec_eq_perform .window s nofun, ← commandEffect_window_completed]
  simp only [commandChecks, perform_cons hf, perform_nil, badPhase, misaligned, wsRange, decide_eq_true_eq,
    slotRange_bad_iff, slotRange_cause, slotRange_info]

/-- With legal operands WINDOW makes its pass, whether or not a fault is recorded. -/
theorem exec_window_of_legal (hp : s.a0.toNat < 16) (hO : s.a2.toNat % 2 = 0) (hN : s.a1.toNat < 0x10000)
    (hH : s.a1.toNat / 32 * 32 + 0x220 ≤ 4096) (hOr : s.a2.toNat + 0x42 ≤ 4096) :
    exec .window s = .next { s with
      ws := windowPass s.cfg s.epoch s.ws s.a0.toNat (s.a1.toNat / 32 * 32) s.a2.toNat, lastOk := true } := by
  have hslot : (slotRange s.a1).bad = false := by
    rw [Bool.eq_false_iff, ne_eq, slotRange_bad_iff]
    omega
  rw [← slotBase_of_lt hN, ← commandEffect_window_completed, exec_eq_perform .window s nofun]
  refine perform_of_checks_pass _ ?_
  simp [commandChecks, badPhase, misaligned, wsRange, hp, hO, hOr, hslot]

end

/-! ### The statements -/

/-- Settles O34: the chain of WINDOW's checks, then a pass that writes only its range. -/
theorem windowFaultsOrWritesItsRange : Obligations.WindowFaultsOrWritesItsRange := by
  refine ⟨rfl, fun s hf => ?_⟩
  rw [exec_window_eq hf]
  split_ifs
  · rfl
  · rfl
  · rfl
  · rfl
  · exact ⟨_, rfl, wsByteAt_windowPass_of_outside s.cfg s.epoch s.ws _ _ _⟩

/-- Settles O35: apart from the slot, every output is computed from the history the window found. -/
theorem windowStoresRoundedSums : Obligations.WindowStoresRoundedSums := by
  rintro s _ _ _ rfl rfl rfl hp hO hN hH hOr hapart
  refine ⟨_, exec_window_of_legal hp hO hN hH hOr, ?_⟩
  have houtput {j : Nat} (hj : j < 33) := congrArg BitVec.toInt
    ((sampleAt_windowPass s.cfg s.epoch s.ws s.a0.toNat _ _ hOr hapart hj).trans (low16_windowValue s _ _ hj))
  simp only [ofInt_toInt_eq_int16] at houtput
  refine ⟨fun n hn => ?_, houtput (j := 16) (by decide), fun m hm => ?_⟩
  · rw [houtput (by omega), State.windowOutput_first s _ _ hn]
  · rw [← State.windowOutput_second, ← houtput (by omega), Nat.mul_add, ← Nat.add_assoc]

/-- Settles O36: the workspaces after the first j of the 33 outputs. -/
theorem windowWritesInOrder : Obligations.WindowWritesInOrder := by
  intro s hp hO hN hH hOr
  refine ⟨windowOutputs s.cfg s.epoch s.ws s.a0.toNat (s.a1.toNat / 32 * 32) s.a2.toNat, rfl, ?_,
    fun j hj => windowOutputs_storesSample s _ _ hOr hj⟩
  rw [← windowPass_eq]
  exact exec_window_of_legal hp hO hN hH hOr

/-- Settles O37: the flipped operand is legal too and has the same base. -/
theorem windowIgnoresSlotLowBits : Obligations.WindowIgnoresSlotLowBits := by
  intro s x hx hp hO hN hH hOr
  have hrow := xor_toNat_div_of_lt s.a1 hx
  refine ⟨_, exec_window_of_legal hp hO hN hH hOr, ?_⟩
  rw [exec_window_of_legal (s := { s with a1 := s.a1 ^^^ x }) hp hO (by dsimp only; omega) (by rwa [hrow]) hOr]
  dsimp only
  rw [hrow]

end Sys2Proof.Machine

/-! ## The gain stage (45_gain.md): the identity gain, and the GAIN command -/

namespace Sys2Proof.Machine

/-! ### The identity gain (rules R80, R121) -/

/-- The product by 1 is in range, so it is not clamped (rule R123). -/
theorem scaledMultiply_one (sample : Half) : scaledMultiply sample 1#16 = sample := by
  have hlo : -32768 ≤ sample.toInt := BitVec.le_toInt sample
  have hhi : sample.toInt < 32768 := BitVec.toInt_lt
  have hone : (1#16).toInt = 1 := rfl
  apply BitVec.eq_of_toInt_eq
  rw [scaledMultiply_toInt, hone]
  omega

/-- Writing a sample back where it was read changes no byte. -/
theorem wsByteAt_putSample_sampleAt (e : Nat) (m : Memory) (a x : Nat) :
    wsByteAt e (putSample m a (sampleAt e m a)) x = wsByteAt e m x := by
  have hhigh : (sampleAt e m a).extractLsb' 8 8 = wsByteAt e m a :=
    BitVec.extractLsb'_append_eq_left
  have hlow : (sampleAt e m a).extractLsb' 0 8 = wsByteAt e m (a + 1) :=
    BitVec.extractLsb'_append_eq_right
  rw [wsByteAt_putSample, hhigh, hlow]
  split_ifs with h1 h0
  · rw [h1.1]
  · rw [h0.1]
  · rfl

theorem wsByteAt_applyGain_one (e : Nat) (ws : Memory) (o n x : Nat) :
    wsByteAt e (applyGain e ws o n 1#16) x = wsByteAt e ws x := by
  refine foldl_keeps (p := fun m => wsByteAt e m x = wsByteAt e ws x) (fun m i hm => ?_) _ rfl
  rw [scaledMultiply_one, wsByteAt_putSample_sampleAt, hm]

/-! ### The command (rule R123) -/

theorem commandChecks_gain (s : State) :
    commandChecks .gain s = [misaligned s.a0, wsRange s.a0 (2 * s.a1.toNat)] := rfl

/-- What GAIN makes of the state when neither check is violated. -/
theorem commandEffect_gain_completed (s : State) :
    (commandEffect .gain s).completed = { s with
      ws := applyGain s.epoch s.ws s.a0.toNat s.a1.toNat (s.a2.extractLsb' 0 16), lastOk := true } := by
  rw [← low16_eq_extractLsb]
  rfl

section
variable {s : State}

/-- GAIN by its checks, in the order of rule R123. -/
theorem exec_gain_eq (hf : s.faulted = false) :
    exec .gain s =
      if s.a0.toNat % 2 ≠ 0 then .next (s.faultedWith .misaligned s.a0)
      else if s.a0.toNat + 2 * s.a1.toNat > 4096 then .next (s.faultedWith .wsRange s.a0)
      else .next { s with
        ws := applyGain s.epoch s.ws s.a0.toNat s.a1.toNat (s.a2.extractLsb' 0 16), lastOk := true } := by
  rw [exec_eq_perform .gain s nofun, commandChecks_gain, ← commandEffect_gain_completed]
  simp only [perform_cons hf, perform_nil, misaligned, wsRange, decide_eq_true_eq]

/-- With legal operands GAIN scales its samples, whether or not a fault is recorded. -/
theorem exec_gain_of_legal (ho : s.a0.toNat % 2 = 0) (hr : s.a0.toNat + 2 * s.a1.toNat ≤ 4096) :
    exec .gain s = .next { s with
      ws := applyGain s.epoch s.ws s.a0.toNat s.a1.toNat (s.a2.extractLsb' 0 16), lastOk := true } := by
  rw [exec_eq_perform .gain s nofun, commandChecks_gain, ← commandEffect_gain_completed]
  refine perform_of_checks_pass _ ?_
  simp [misaligned, wsRange, ho, hr]

end

/-! ### The statements -/

/-- Settles O38: the chain of GAIN's checks, then a stage that clamps each product and writes only its samples. -/
theorem gainScalesItsSamples : Obligations.GainScalesItsSamples := by
  refine ⟨rfl, fun s hf => ?_⟩
  rw [exec_gain_eq hf]
  split_ifs with hodd hws
  · rfl
  · rfl
  · refine ⟨_, rfl, fun i hi => ?_, wsByteAt_applyGain_of_outside s.epoch s.ws _ _ _⟩
    rw [sampleAt_applyGain s.epoch s.ws _ _ _ (Nat.le_of_not_gt hws) hi, scaledMultiply_toInt, State.sample]

/-- Settles O39: the stage writes back each sample as it read it. -/
theorem gainOfOneIsIdentity : Obligations.GainOfOneIsIdentity := by
  intro s ho hr hg
  refine ⟨_, exec_gain_of_legal ho hr, fun x => ?_⟩
  rw [hg, wsByteAt_applyGain_one, State.wsByte]

end Sys2Proof.Machine

/-! ## The group (46_frame_driver.md rules R130 to R134): the slot registers, GROUP, and GROUP as its commands -/

namespace Sys2Proof.Machine

/-! ### A slot register with its column (rules R113, R132) -/

/-- A group's column lies within bits 4:0. -/
theorem column_and_mask (p : BitVec 4) : BitVec.ofNat 16 (2 * p.toNat) &&& 0xFFE0#16 = 0#16 := by
  revert p
  decide

/-- Replacing the column keeps the base. -/
@[simp] theorem slotAt_and_mask (slot : Half) (p : BitVec 4) : slotAt slot p &&& 0xFFE0#16 = slot &&& 0xFFE0#16 := by
  rw [slotAt, BitVec.and_or_distrib_right, column_and_mask, BitVec.and_assoc, BitVec.and_self, BitVec.or_zero]

/-- The last column given is the one kept. -/
@[simp] theorem slotAt_slotAt (slot : Half) (p q : BitVec 4) : slotAt (slotAt slot p) q = slotAt slot q := by
  rw [slotAt, slotAt_and_mask, slotAt]

/-- The model's mutation of a slot register is the rule's. -/
theorem mutateSlot_eq_slotAt (slot : Half) (p : BitVec 4) : mutateSlot slot p = slotAt slot p := by
  have hcolumn : p.setWidth 16 <<< 1 = BitVec.ofNat 16 (2 * p.toNat) := by
    revert p
    decide
  rw [mutateSlot, hcolumn, slotAt]

/-- The base of a slot register read as an operand. -/
theorem slotBase_zext32 (slot : Half) : slotBase (zext32 slot) = (slot &&& 0xFFE0#16).toNat := by
  rw [slotBase, BitVec.toNat_and, BitVec.toNat_and, zext32_toNat]
  rfl

theorem slotMask_toNat (slot : Half) : (slot &&& 0xFFE0#16).toNat = slot.toNat / 32 * 32 := by
  have hlt : (zext32 slot).toNat < 0x10000 := by
    rw [zext32_toNat]
    exact slot.isLt
  rw [← slotBase_zext32, slotBase_of_lt hlt, zext32_toNat]

/-- A slot register with a column is its base plus twice the phase. -/
theorem slotAt_toNat (slot : Half) (p : BitVec 4) :
    (slotAt slot p).toNat = (slot &&& 0xFFE0#16).toNat + 2 * p.toNat := by
  have hdisjoint : (slot &&& 0xFFE0#16) &&& BitVec.ofNat 16 (2 * p.toNat) = 0#16 := by
    rw [BitVec.and_assoc, BitVec.and_comm 0xFFE0#16, column_and_mask, BitVec.and_zero]
  have hbase := slotMask_toNat slot
  rw [slotAt, ← BitVec.add_eq_or_of_and_eq_zero _ _ hdisjoint, BitVec.toNat_add, BitVec.toNat_ofNat]
  omega

/-- The check of a slot register read as an operand (rule R134). -/
theorem slotRange_zext32_bad_iff (slot : Half) :
    (slotRange (zext32 slot)).bad = true ↔ (slot &&& 0xFFE0#16).toNat + 0x220 > 4096 := by
  have hlt := slot.isLt
  rw [slotRange_bad_iff, zext32_toNat, ← slotMask_toNat]
  omega

/-- Widening a half keeps its value. -/
theorem setWidth_32_toNat (h : Half) : (h.setWidth 32).toNat = h.toNat := zext32_toNat h

/-- A widened half narrows back to itself. -/
theorem extractLsb_setWidth_32 (h : Half) : (h.setWidth 32).extractLsb' 0 16 = h :=
  (low16_eq_extractLsb (h.setWidth 32)).symm.trans (BitVec.setWidth_setWidth_of_le h (by decide))

/-- A slot register with a column, read as an operand: even, its 17 rows inside the workspace from that column on and
from the base on. -/
theorem slotAt_operand {slot : Half} (h : (slot &&& 0xFFE0#16).toNat + 0x220 ≤ 4096) (p : BitVec 4) :
    ((slotAt slot p).setWidth 32).toNat % 2 = 0 ∧ ((slotAt slot p).setWidth 32).toNat + 0x202 ≤ 4096 ∧
      ((slotAt slot p).setWidth 32).toNat / 32 * 32 + 0x220 ≤ 4096 := by
  have hvalue := slotAt_toNat slot p
  have hbase := slotMask_toNat slot
  have hp := p.isLt
  rw [setWidth_32_toNat]
  omega

/-! ### The group body -/

/-- A group body with the rules' phase and columns (R131, R132). -/
theorem groupBody_eq_slotAt (s : State) (I O : Nat) :
    s.groupBody I O = { s with
      phase := s.phase - 1
      slotNew := slotAt s.slotPrev s.groupPhase
      slotPrev := slotAt s.slotNew s.groupPhase
      ws := groupWorkspace s.cfg s.epoch s.ws I O s.groupPhase (slotAt s.slotNew s.groupPhase)
        (slotAt s.slotPrev s.groupPhase) s.g0 s.g1 } := by
  rw [groupBody_eq]
  simp only [mutateSlot_eq_slotAt, State.groupPhase]

theorem groupBody_ws (s : State) (I O : Nat) : (s.groupBody I O).ws =
    groupWorkspace s.cfg s.epoch s.ws I O s.groupPhase (slotAt s.slotNew s.groupPhase)
      (slotAt s.slotPrev s.groupPhase) s.g0 s.g1 := by
  rw [groupBody_eq_slotAt]

/-- The gain of a group's last 16 samples, as rule R122 of 45_gain.md puts it. -/
theorem gainSelect_eq (c : Config) (p : Nat) (g0 g1 : Half) :
    gainSelect c p g0 g1 =
      if (p % 2 = 1 ∧ c.gselOdd = .g1) ∨ (p % 2 = 0 ∧ c.gselOdd = .g0) then g1 else g0 := by
  unfold gainSelect
  congr 1
  cases c.gselOdd <;> simp

/-! ### The command (rule R134) -/

/-- GROUP's checks in the order of rule R134, for regions of any length at its two operands and its two slots, which are
at N and P. -/
theorem perform_groupChecks {s : State} (hf : s.faulted = false) (I O : Word) (lI lO lS : Nat) {new prev : Check}
    {N P : Nat} (hN : new.bad = true ↔ N + lS > 4096) (hP : prev.bad = true ↔ P + lS > 4096) {run : State → State}
    {o : Out} {q : Prop}
    (ho : o = s.perform [misaligned I, misaligned O, wsRange I lI, wsRange O lO, new, prev] run)
    (hq : o = .next (run s).completed → q) :
    if I.toNat % 2 ≠ 0 then o = .next (s.faultedWith .misaligned I)
    else if O.toNat % 2 ≠ 0 then o = .next (s.faultedWith .misaligned O)
    else if I.toNat + lI > 4096 then o = .next (s.faultedWith .wsRange I)
    else if O.toNat + lO > 4096 then o = .next (s.faultedWith .wsRange O)
    else if N + lS > 4096 then o = .next (s.faultedWith new.cause new.info)
    else if P + lS > 4096 then o = .next (s.faultedWith prev.cause prev.info)
    else q := by
  simp only [perform_cons hf, perform_nil, misaligned, wsRange, decide_eq_true_eq, hN, hP] at ho
  exact ite_of_eq_ite ho fun h => ite_of_eq_ite h fun h => ite_of_eq_ite h fun h => ite_of_eq_ite h fun h =>
    ite_of_eq_ite h fun h => ite_of_eq_ite h hq

section
variable {s : State}

/-- With its preconditions met GROUP is the group body, whether or not a fault is recorded. -/
theorem exec_group_of_legal (h : s.GroupOk) :
    exec .group s = .next (s.groupBody s.a0.toNat s.a1.toNat).completed := by
  obtain ⟨hI, hO, hIr, hOr, hN, hP⟩ := h
  have hslot {slot : Half} (h : (slot &&& 0xFFE0#16).toNat + 0x220 ≤ 4096) : (slotRange (zext32 slot)).bad = false :=
    Bool.eq_false_iff.mpr fun hbad => absurd ((slotRange_zext32_bad_iff slot).mp hbad) (Nat.not_lt.mpr h)
  rw [exec_eq_perform .group s nofun]
  refine perform_of_checks_pass _ ?_
  simp [commandChecks, misaligned, wsRange, hI, hO, hIr, hOr, hslot hN, hslot hP]

end

/-- What a later command finds after one that writes the workspace only. -/
theorem exists_next_of_ws_only {i : Instr} {s : State} {w : Memory}
    (h : exec i s = .next { s with ws := w, lastOk := true }) :
    ∃ t, exec i s = .next t ∧ t.ws = w ∧ t.a1 = s.a1 ∧ t.cfg = s.cfg ∧ t.epoch = s.epoch :=
  ⟨_, h, rfl, rfl, rfl, rfl⟩

/-! ### The statements -/

/-- Settles O40: the chain of GROUP's checks, then a body that writes only a history column and its outputs. -/
theorem groupFaultsOrRotatesAndSwaps : Obligations.GroupFaultsOrRotatesAndSwaps := by
  refine ⟨rfl, fun s hf => ?_⟩
  have hexec := exec_eq_perform .group s nofun
  refine perform_groupChecks hf s.a0 s.a1 0x40 0x42 0x220 (slotRange_zext32_bad_iff s.slotNew)
    (slotRange_zext32_bad_iff s.slotPrev) hexec fun h => ?_
  simp only [commandEffect, unsigned, groupBody_eq_slotAt, State.completed] at h
  refine ⟨_, h, fun x hN hP hO => ?_⟩
  exact wsByteAt_groupWorkspace_of_outside _ _ _ _ _ _ _ _ _ _ _ hN hP hO

/-- Settles O41: a slot's base and column keep the operands of SYNTH and WINDOW legal, and the four commands are the four
stages of the group's work. -/
theorem groupIsItsCommands : Obligations.GroupIsItsCommands := by
  intro s hok
  obtain ⟨hI, hO, hIr, hOr, hN, hP⟩ := id hok
  obtain ⟨hNeven, hNrows, hNbase⟩ := slotAt_operand hN s.groupPhase
  obtain ⟨hPeven, hProws, -⟩ := slotAt_operand hP s.groupPhase
  have hNhalf : ((slotAt s.slotNew s.groupPhase).setWidth 32).toNat < 0x10000 := by omega
  have hphase : (s.groupPhase.setWidth 32).toNat = s.groupPhase.toNat := BitVec.toNat_setWidth_of_le (by decide)
  have hupper : (s.a1 + 0x22).toNat = s.a1.toNat + 0x22 := by bv_omega
  obtain ⟨s1, hsynth, hws1, hN1, hcfg1, hepoch1⟩ := exists_next_of_ws_only (exec_synth_of_legal
    (s := { s with
      a1 := (slotAt s.slotNew s.groupPhase).setWidth 32, a2 := (slotAt s.slotPrev s.groupPhase).setWidth 32 })
    hI hNeven hPeven hIr (by dsimp only; omega) hProws)
  obtain ⟨s2, hwindow, hws2, -, -, hepoch2⟩ := exists_next_of_ws_only (exec_window_of_legal
    (s := { s1 with a0 := s.groupPhase.setWidth 32, a2 := s.a1 })
    (hphase ▸ s.groupPhase.isLt) hO (hN1 ▸ hNhalf) (hN1 ▸ hNbase) hOr)
  obtain ⟨s3, hgain, hws3, -, -, hepoch3⟩ := exists_next_of_ws_only (exec_gain_of_legal
    (s := { s2 with a0 := s.a1, a1 := 17, a2 := s.g0.setWidth 32 }) hO (show s.a1.toNat + 2 * 17 ≤ 4096 by omega))
  obtain ⟨s4, hselected, hws4, -⟩ := exists_next_of_ws_only (exec_gain_of_legal
    (s := { s3 with
      a0 := s.a1 + 0x22, a1 := 16
      a2 :=
        if (s.groupPhase.toNat % 2 = 1 ∧ s.cfg.gselOdd = .g1) ∨ (s.groupPhase.toNat % 2 = 0 ∧ s.cfg.gselOdd = .g0)
        then s.g1.setWidth 32 else s.g0.setWidth 32 })
    (show (s.a1 + 0x22).toNat % 2 = 0 by omega) (show (s.a1 + 0x22).toNat + 2 * 16 ≤ 4096 by omega))
  refine ⟨s1, s2, s3, s4, _, hsynth, hwindow, hgain, hselected, exec_group_of_legal hok, ?_⟩
  have hgains := gainSelect_eq s.cfg s.groupPhase.toNat s.g0 s.g1
  have hbase := (slotBase_zext32 (slotAt s.slotNew s.groupPhase)).trans (slotMask_toNat _)
  dsimp only [State.synthWrites] at hws1 hws2 hws3 hws4 hN1 hcfg1 hepoch1 hepoch2 hepoch3
  rw [← synthesis_eq_putSamples, setWidth_32_toNat, setWidth_32_toNat] at hws1
  rw [hN1, hphase, setWidth_32_toNat, ← hbase, hcfg1, hepoch1, hws1] at hws2
  rw [extractLsb_setWidth_32, hepoch2, hepoch1, hws2] at hws3
  rw [← apply_ite (BitVec.setWidth 32), ← hgains, extractLsb_setWidth_32, hupper, hepoch3, hepoch2, hepoch1, hws3]
    at hws4
  exact (groupBody_ws s _ _).trans hws4.symm

end Sys2Proof.Machine

/-! ## The frame (46_frame_driver.md rules R124 to R138): DECODE as a walk, and the registers it leaves -/

namespace Sys2Proof

/-- The three offsets whose parity DECODE checks (log entry 12). -/
@[simp] theorem Config.layoutEven_iff (c : Config) :
    c.layoutEven = true ↔ c.hdrOff.toNat % 2 = 0 ∧ c.inOff.toNat % 2 = 0 ∧ c.outOff.toNat % 2 = 0 := by
  simp [Config.layoutEven, and_assoc]

/-- What rule R60 asks of the five regions, by name: `SLOT_A` and `SLOT_B` at multiples of 0x20, every region inside the
workspace, and the pairs that share no byte as far as a frame needs them. -/
structure Config.Layout (c : Config) : Prop where
  slotA_aligned : c.slotA.toNat % 32 = 0
  slotB_aligned : c.slotB.toNat % 32 = 0
  slotA_inside : c.slotA.toNat + 0x220 ≤ 4096
  slotB_inside : c.slotB.toNat + 0x220 ≤ 4096
  header_inside : c.hdrOff.toNat + 8 ≤ 4096
  input_inside : c.inOff.toNat + 0x180 ≤ 4096
  output_inside : c.outOff.toNat + 0x182 ≤ 4096
  slotA_header : c.hdrOff.toNat + 8 ≤ c.slotA.toNat ∨ c.slotA.toNat + 0x220 ≤ c.hdrOff.toNat
  slotB_header : c.hdrOff.toNat + 8 ≤ c.slotB.toNat ∨ c.slotB.toNat + 0x220 ≤ c.hdrOff.toNat
  input_header : c.hdrOff.toNat + 8 ≤ c.inOff.toNat ∨ c.inOff.toNat + 0x180 ≤ c.hdrOff.toNat
  output_header : c.hdrOff.toNat + 8 ≤ c.outOff.toNat ∨ c.outOff.toNat + 0x182 ≤ c.hdrOff.toNat
  slotA_input : c.inOff.toNat + 0x180 ≤ c.slotA.toNat ∨ c.slotA.toNat + 0x220 ≤ c.inOff.toNat
  slotB_input : c.inOff.toNat + 0x180 ≤ c.slotB.toNat ∨ c.slotB.toNat + 0x220 ≤ c.inOff.toNat
  output_input : c.inOff.toNat + 0x180 ≤ c.outOff.toNat ∨ c.outOff.toNat + 0x182 ≤ c.inOff.toNat

theorem Config.layout_of_wellFormed {c : Config} (h : c.wellFormed = true) : c.Layout := by
  obtain ⟨haligned, hinside, hapart, -⟩ := (Config.wellFormed_iff c).mp h
  simp only [Config.slotsAligned_iff, Config.regionsInside_iff, Config.regionsApart_iff, Config.regions,
    List.forall_mem_cons, List.pairwise_cons] at haligned hinside hapart
  constructor <;> omega

end Sys2Proof

namespace Sys2Proof.Machine

/-! ### DECODE with its preconditions met (rule R126) -/

/-- With its preconditions met DECODE is the frame, whether or not a fault is recorded. -/
theorem exec_decode_of_legal {s : State} (h : s.DecodeOk) :
    exec .decode s = .next (s.decodeFrame s.a0 s.a1).completed := by
  obtain ⟨hw, heven, hp, hE⟩ := h
  obtain ⟨hhdr, hin, hout⟩ := (Config.layoutEven_iff s.cfg).mp heven
  rw [exec_eq_perform .decode s fun _ => hw]
  refine perform_of_checks_pass _ ?_
  simp [commandChecks, layoutMisaligned, badPhase, misaligned, extRange, hhdr, hin, hout, hp, hE]

/-- The state HeaderRead leaves at the start of a frame (rules R127, R128). -/
def State.frameStart (s : State) (E p0 : Word) : State := (s.decodeInit E p0).headerRead E

/-- A frame after its first n sub-blocks; tied to the model by `decodeFrame_eq`. -/
def State.afterSubBlocks (s : State) (E p0 : Word) : Nat → State
  | 0 => s.frameStart E p0
  | n + 1 => (s.afterSubBlocks E p0 n).subBlock

/-- A frame is its start, three sub-blocks and Done (rule R125). -/
theorem decodeFrame_eq (s : State) (E p0 : Word) : s.decodeFrame E p0 = (s.afterSubBlocks E p0 3).frameDone := by
  simp only [State.decodeFrame, State.frameStart, State.afterSubBlocks]

/-! ### The turns of a sub-block (rules R124, R130) -/

section
variable (n : Nat) (s : State)

/-- The turns one after another, the last one split off. -/
theorem groupTurns_succ : State.groupTurns (n + 1) s = (State.groupTurns n s).groupTurn := by
  induction n generalizing s with
  | zero => rfl
  | succ n ih => exact ih s.groupTurn

/-- What one turn keeps, all of them keep. -/
theorem groupTurns_keeps_field {α : Type} {f : State → α} (hf : ∀ t, f t.groupTurn = f t) :
    f (State.groupTurns n s) = f s := by
  induction n with
  | zero => rfl
  | succ n ih => rw [groupTurns_succ, hf, ih]

@[simp] theorem State.groupTurns_g0 : (State.groupTurns n s).g0 = s.g0 := groupTurns_keeps_field n s State.groupTurn_g0
@[simp] theorem State.groupTurns_g1 : (State.groupTurns n s).g1 = s.g1 := groupTurns_keeps_field n s State.groupTurn_g1
@[simp] theorem State.groupTurns_fsm : (State.groupTurns n s).fsm = s.fsm :=
  groupTurns_keeps_field n s State.groupTurn_fsm
@[simp] theorem State.groupTurns_ext : (State.groupTurns n s).ext = s.ext :=
  groupTurns_keeps_field n s State.groupTurn_ext
@[simp] theorem State.groupTurns_extRd : (State.groupTurns n s).extRd = s.extRd :=
  groupTurns_keeps_field n s State.groupTurn_extRd
@[simp] theorem State.groupTurns_extWr : (State.groupTurns n s).extWr = s.extWr :=
  groupTurns_keeps_field n s State.groupTurn_extWr
@[simp] theorem State.groupTurns_cfg : (State.groupTurns n s).cfg = s.cfg :=
  groupTurns_keeps_field n s State.groupTurn_cfg
@[simp] theorem State.groupTurns_epoch : (State.groupTurns n s).epoch = s.epoch :=
  groupTurns_keeps_field n s State.groupTurn_epoch

end

/-! ### The walk (rule R124) -/

section
variable (E : Word)

theorem fsmWalk_add (m n : Nat) (s : State) :
    State.fsmWalk E (m + n) s = State.fsmWalk E n (State.fsmWalk E m s) := by
  induction m generalizing s with
  | zero => rw [Nat.zero_add, State.fsmWalk]
  | succ m ih => rw [Nat.succ_add, State.fsmWalk, State.fsmWalk, ih]

/-- Idle is left only by a DECODE's init. -/
theorem fsmWalk_of_idle (n : Nat) {s : State} (h : s.fsm = .idle) : State.fsmWalk E n s = s := by
  induction n with
  | zero => rfl
  | succ n ih =>
    have hstay : s.fsmTransition E = s := by simp [State.fsmTransition, h]
    rw [State.fsmWalk, hstay, ih]

/-- GroupLoop makes the turns that are left. -/
theorem fsmWalk_groupLoop {n : Nat} {s : State} (h : s.fsm = .groupLoop) (hn : s.grp + n ≤ 6) :
    State.fsmWalk E n s = State.groupTurns n s := by
  induction n generalizing s with
  | zero => rfl
  | succ n ih =>
    have hlt : s.grp < 6 := by omega
    have hturn : s.fsmTransition E = s.groupTurn := by simp [State.fsmTransition, h, hlt]
    have hrest : s.groupTurn.grp + n ≤ 6 := by
      rw [State.groupTurn_grp]
      omega
    rw [State.fsmWalk, State.groupTurns, hturn, ih ((State.groupTurn_fsm s).trans h) hrest]

/-- A sub-block is nine transitions: the load, six turns, GroupLoop left, the store. -/
theorem fsmWalk_subBlock {s : State} (h : s.fsm = .subBlockLoad) : State.fsmWalk E 9 s = s.subBlock := by
  have hload : State.fsmWalk E 1 s = s.subBlockLoad := by simp [State.fsmWalk, State.fsmTransition, h]
  have hturns : State.fsmWalk E 6 s.subBlockLoad = State.groupTurns 6 s.subBlockLoad :=
    fsmWalk_groupLoop E (State.subBlockLoad_fsm s) (by simp)
  rw [show 9 = 1 + (6 + 2) from rfl, fsmWalk_add, fsmWalk_add, hload, hturns]
  simp [State.fsmWalk, State.fsmTransition, State.subBlock]

theorem subBlock_fsm (s : State) : s.subBlock.fsm = if s.sb + 1 < 3 then .subBlockLoad else .done := by
  simp [State.subBlock]

/-- Three sub-blocks after HeaderRead, one transition before Idle. -/
theorem fsmWalk_decodeInit (s : State) (p0 : Word) :
    State.fsmWalk E 28 (s.decodeInit E p0) = s.afterSubBlocks E p0 3 := by
  have hstart : State.fsmWalk E 1 (s.decodeInit E p0) = s.frameStart E p0 := rfl
  have hsb : (s.frameStart E p0).sb = 0 := rfl
  have hfsm : (s.frameStart E p0).fsm = .subBlockLoad := rfl
  have hfsm1 : (s.frameStart E p0).subBlock.fsm = .subBlockLoad := by simp [subBlock_fsm, hsb]
  have hfsm2 : (s.frameStart E p0).subBlock.subBlock.fsm = .subBlockLoad := by simp [subBlock_fsm, hsb]
  rw [show 28 = 1 + (9 + (9 + 9)) from rfl, fsmWalk_add, fsmWalk_add, fsmWalk_add, hstart,
    fsmWalk_subBlock E hfsm, fsmWalk_subBlock E hfsm1, fsmWalk_subBlock E hfsm2]
  simp only [State.afterSubBlocks]

theorem afterSubBlocks_fsm_done (s : State) (p0 : Word) : (s.afterSubBlocks E p0 3).fsm = .done := by
  have hsb : (s.frameStart E p0).sb = 0 := rfl
  simp [State.afterSubBlocks, subBlock_fsm, hsb]

theorem fsmWalk_decodeFrame (s : State) (p0 : Word) :
    State.fsmWalk E 29 (s.decodeInit E p0) = s.decodeFrame E p0 := by
  rw [show 29 = 28 + 1 from rfl, fsmWalk_add, fsmWalk_decodeInit, decodeFrame_eq]
  simp only [State.fsmWalk, State.fsmTransition, afterSubBlocks_fsm_done]

end

/-- Settles O46: a walk that reached Idle would stay there, but it is in Done before its last transition. -/
theorem decodeIsTheWalk : Obligations.DecodeIsTheWalk := by
  intro s hok
  refine ⟨?_, ?_, fun n hn hidle => ?_⟩
  · rw [fsmWalk_decodeFrame]
    exact exec_decode_of_legal hok
  · rw [fsmWalk_decodeFrame]
    exact (driverIdle_decodeFrame s s.a0 s.a1).1
  · have hstay := fsmWalk_of_idle s.a0 (28 - n) hidle
    rw [← fsmWalk_add, Nat.add_sub_of_le (by omega), fsmWalk_decodeInit] at hstay
    rw [← hstay, afterSubBlocks_fsm_done] at hidle
    cases hidle

/-! ### The registers a frame leaves (rules R131 to R133, R138) -/

section
variable (s : State)

@[simp] theorem groupBody_slotNew (I O : Nat) : (s.groupBody I O).slotNew = slotAt s.slotPrev s.groupPhase := by
  rw [groupBody_eq_slotAt]

@[simp] theorem groupBody_slotPrev (I O : Nat) : (s.groupBody I O).slotPrev = slotAt s.slotNew s.groupPhase := by
  rw [groupBody_eq_slotAt]

@[simp] theorem groupTurn_groupPhase : s.groupTurn.groupPhase = s.groupPhase - 1 := by
  simp only [State.groupPhase, State.groupTurn_cfg, State.groupTurn_phase]
  split <;> rfl

/-- Six turns rotate the phase six times, swap the slots back, and leave both the sixth group's column. -/
theorem groupTurns_six_registers :
    (State.groupTurns 6 s).phase = s.phase - 6 ∧
    (State.groupTurns 6 s).slotNew = slotAt s.slotNew (s.groupPhase - 5) ∧
    (State.groupTurns 6 s).slotPrev = slotAt s.slotPrev (s.groupPhase - 5) := by
  simp only [State.groupTurns, State.groupTurn_phase, State.groupTurn_slotNew, State.groupTurn_slotPrev,
    groupBody_slotNew, groupBody_slotPrev, groupTurn_groupPhase, slotAt_slotAt, sub_sub]
  exact ⟨rfl, rfl, rfl⟩

@[simp] theorem subBlockLoad_groupPhase : s.subBlockLoad.groupPhase = s.groupPhase := rfl

@[simp] theorem subBlock_phase : s.subBlock.phase = s.phase - 6 := by
  simp [State.subBlock, groupTurns_six_registers]

@[simp] theorem subBlock_slotNew : s.subBlock.slotNew = slotAt s.slotNew (s.groupPhase - 5) := by
  simp [State.subBlock, groupTurns_six_registers]

@[simp] theorem subBlock_slotPrev : s.subBlock.slotPrev = slotAt s.slotPrev (s.groupPhase - 5) := by
  simp [State.subBlock, groupTurns_six_registers]

@[simp] theorem subBlock_cfg : s.subBlock.cfg = s.cfg := (subBlock_keeps s).cfg

@[simp] theorem subBlock_groupPhase : s.subBlock.groupPhase = s.groupPhase - 6 := by
  simp only [State.groupPhase, subBlock_cfg, subBlock_phase]
  split
  · exact sub_right_comm _ _ _
  · rfl

@[simp] theorem subBlock_g0 : s.subBlock.g0 = s.g0 := by simp [State.subBlock]

@[simp] theorem subBlock_g1 : s.subBlock.g1 = s.g1 := by simp [State.subBlock]

end

/-- The columns that eighteen groups leave, by the phase a frame starts with (rules R131, R138). -/
theorem lastGroupPhase_eq (s : State) (E p0 : Word) :
    (s.frameStart E p0).groupPhase - 17 = BitVec.ofNat 4 p0.toNat - (if s.cfg.rotateFirst then 2 else 1) := by
  have hcfg : (s.frameStart E p0).cfg = s.cfg := rfl
  have hphase : (s.frameStart E p0).phase = BitVec.ofNat 4 p0.toNat := (BitVec.ofNat_toNat 4 p0).symm
  rw [State.groupPhase, hcfg, hphase]
  split
  · rw [sub_sub]
    rfl
  · rfl

/-- A sample of the header, as HeaderRead finds it, is two bytes of the frame (rule R128). -/
theorem sampleAt_copyIn (ep : Nat) (ws ext : Memory) {o e n k : Nat} (h : o + n ≤ 4096) (hk : k + 2 ≤ n) :
    sampleAt ep (copyIn ws ext o e n) (o + k) = extByteAt ext (e + k) ++ extByteAt ext (e + k + 1) := by
  rw [sampleAt, wsByteAt_copyIn ep ws ext o e n h, wsByteAt_copyIn ep ws ext o e n h, if_pos (by omega),
    if_pos (by omega), Nat.add_sub_cancel_left, Nat.add_assoc o, Nat.add_sub_cancel_left, Nat.add_assoc]

/-- The phase, the slot registers and the gains a frame leaves (rule R138, items 1 to 3). -/
theorem decodeFrame_registers (s : State) (E p0 : Word) (hheader : s.cfg.hdrOff.toNat + 8 ≤ 4096) :
    (s.decodeFrame E p0).phase = BitVec.ofNat 4 p0.toNat - 2 ∧
    (s.decodeFrame E p0).slotNew =
      slotAt s.cfg.slotA (BitVec.ofNat 4 p0.toNat - (if s.cfg.rotateFirst then 2 else 1)) ∧
    (s.decodeFrame E p0).slotPrev =
      slotAt s.cfg.slotB (BitVec.ofNat 4 p0.toNat - (if s.cfg.rotateFirst then 2 else 1)) ∧
    (s.decodeFrame E p0).g0 = s.extByte E.toNat ++ s.extByte (E.toNat + 1) ∧
    (s.decodeFrame E p0).g1 = s.extByte (E.toNat + 4) ++ s.extByte (E.toNat + 5) := by
  have hcolumn := lastGroupPhase_eq s E p0
  have hphase : (s.frameStart E p0).phase = BitVec.ofNat 4 p0.toNat := (BitVec.ofNat_toNat 4 p0).symm
  simp only [decodeFrame_eq, State.afterSubBlocks, State.frameDone_phase,
    State.frameDone_slotNew, State.frameDone_slotPrev, State.frameDone_g0, State.frameDone_g1, subBlock_phase,
    subBlock_slotNew, subBlock_slotPrev, subBlock_groupPhase, slotAt_slotAt, subBlock_g0, subBlock_g1, sub_sub]
  refine ⟨?_, ?_, ?_, ?_, ?_⟩
  · rw [hphase]
    rfl
  · rw [← hcolumn]
    rfl
  · rw [← hcolumn]
    rfl
  · exact sampleAt_copyIn s.epoch s.ws s.ext hheader (k := 0) (by omega)
  · exact sampleAt_copyIn s.epoch s.ws s.ext hheader (k := 4) (by omega)

theorem completed_keeps (s : State) : KeepsOutsideFrame s s.completed :=
  ⟨by constructor <;> simp, by simp, by simp⟩

/-- Settles O43: eighteen groups rotate the phase by 18, leave the slots as they were but for the last column, and keep
the gains HeaderRead took. -/
theorem decodeFinalRegisters : Obligations.DecodeFinalRegisters := by
  intro s hok
  have hheader := (Config.layout_of_wellFormed hok.1).header_inside
  have keep := (decodeFrame_keeps s s.a0 s.a1).trans (completed_keeps _)
  obtain ⟨hphase, hnew, hprev, hg0, hg1⟩ := decodeFrame_registers s s.a0 s.a1 hheader
  obtain ⟨hidle, -⟩ := driverIdle_decodeFrame s s.a0 s.a1
  refine ⟨_, exec_decode_of_legal hok, ?_⟩
  rw [State.completed_phase, State.completed_slotNew, State.completed_slotPrev, State.completed_g0, State.completed_g1,
    State.completed_fsm]
  exact ⟨hphase, hnew, hprev, hg0, hg1, keep.a0, keep.a1, keep.a2, keep.a3, keep.res, keep.v, keep.faulted,
    State.completed_lastOk _, keep.cause, keep.info, hidle, keep.cfg, keep.host, keep.rdata, keep.epoch, keep.draws⟩

end Sys2Proof.Machine

/-! ## Where a frame reads and writes (20_memory.md rules R59, R60; 46_frame_driver.md rules R129, R135, R137, R138) -/

namespace Sys2Proof.Machine

/-! ### The cursors of a sub-block (rule R133) -/

/-- What each turn moves by k, n turns move by k * n. -/
theorem groupTurns_moves_field {w k : Nat} {f : State → BitVec w} (hf : ∀ t, f t.groupTurn = f t + BitVec.ofNat w k)
    (n : Nat) (s : State) : f (State.groupTurns n s) = f s + BitVec.ofNat w (k * n) := by
  induction n with
  | zero => exact (BitVec.add_zero _).symm
  | succ n ih => rw [groupTurns_succ, hf, ih, Nat.mul_succ, BitVec.ofNat_add, BitVec.add_assoc]

theorem groupTurns_inCur (n : Nat) (s : State) :
    (State.groupTurns n s).inCur = s.inCur + BitVec.ofNat 16 (0x40 * n) :=
  groupTurns_moves_field State.groupTurn_inCur n s

theorem groupTurns_outCur (n : Nat) (s : State) :
    (State.groupTurns n s).outCur = s.outCur + BitVec.ofNat 16 (0x40 * n) :=
  groupTurns_moves_field State.groupTurn_outCur n s

/-! ### The slot registers through a frame (rules R127, R132, R133) -/

/-- An aligned slot is its own base. -/
theorem slotMask_of_aligned {slot : Half} (h : slot.toNat % 32 = 0) : slot &&& 0xFFE0#16 = slot := by
  apply BitVec.eq_of_toNat_eq
  rw [slotMask_toNat]
  omega

/-- The slot registers hold the bases A and B, in either order, with any columns. -/
def State.HoldsSlots (s : State) (A B : Half) : Prop :=
  (s.slotNew &&& 0xFFE0#16 = A ∧ s.slotPrev &&& 0xFFE0#16 = B) ∨
  (s.slotNew &&& 0xFFE0#16 = B ∧ s.slotPrev &&& 0xFFE0#16 = A)

section
variable {s : State} {A B : Half}

/-- What holds of both bases holds of both slot registers' bases. -/
theorem State.HoldsSlots.bases (h : s.HoldsSlots A B) {p : Half → Prop} (hA : p A) (hB : p B) :
    p (s.slotNew &&& 0xFFE0#16) ∧ p (s.slotPrev &&& 0xFFE0#16) := by
  rcases h with ⟨hnew, hprev⟩ | ⟨hnew, hprev⟩
  · rw [hnew, hprev]
    exact ⟨hA, hB⟩
  · rw [hnew, hprev]
    exact ⟨hB, hA⟩

/-- A group exchanges the bases and keeps them. -/
theorem groupTurn_holdsSlots (h : s.HoldsSlots A B) : s.groupTurn.HoldsSlots A B := by
  simpa [State.HoldsSlots, and_comm, or_comm] using h

theorem groupTurns_holdsSlots (n : Nat) (h : s.HoldsSlots A B) : (State.groupTurns n s).HoldsSlots A B := by
  induction n with
  | zero => exact h
  | succ n ih =>
    rw [groupTurns_succ]
    exact groupTurn_holdsSlots ih

theorem subBlock_holdsSlots (h : s.HoldsSlots A B) : s.subBlock.HoldsSlots A B := by
  simpa [State.HoldsSlots] using h

/-- A row written at a slot's column lies in the slot's 0x220 bytes. -/
theorem slotAt_row_ne {slot : Half} {p : BitVec 4} {x r : Nat} (hr : r < 17)
    (h : x < (slot &&& 0xFFE0#16).toNat ∨ (slot &&& 0xFFE0#16).toNat + 0x220 ≤ x) :
    x ≠ (slotAt slot p).toNat + 0x20 * r ∧ x ≠ (slotAt slot p).toNat + 0x20 * r + 1 := by
  have hp := p.isLt
  rw [slotAt_toNat]
  omega

/-! ### What a group and a sub-block leave unchanged -/

/-- A turn writes its slots and its 33 outputs only (rule R137). -/
theorem wsByte_groupTurn_of_outside (hs : s.HoldsSlots A B) {x : Nat}
    (hA : x < A.toNat ∨ A.toNat + 0x220 ≤ x) (hB : x < B.toNat ∨ B.toNat + 0x220 ≤ x)
    (hO : x < s.outCur.toNat ∨ s.outCur.toNat + 0x42 ≤ x) : s.groupTurn.wsByte x = s.wsByte x := by
  obtain ⟨hnew, hprev⟩ := hs.bases (p := fun base => x < base.toNat ∨ base.toNat + 0x220 ≤ x) hA hB
  rw [State.wsByte, State.groupTurn_epoch, State.groupTurn_ws, groupBody_ws]
  exact wsByteAt_groupWorkspace_of_outside _ _ _ _ _ _ _ _ _ _ _
    (fun r hr => slotAt_row_ne (by omega) hnew) (fun r hr => slotAt_row_ne hr hprev) hO

/-- Turns write the slots and consecutive outputs only. -/
theorem wsByte_groupTurns_of_outside (n : Nat) (hs : s.HoldsSlots A B) (hfit : s.outCur.toNat + 0x40 * n < 65536)
    {x : Nat} (hA : x < A.toNat ∨ A.toNat + 0x220 ≤ x) (hB : x < B.toNat ∨ B.toNat + 0x220 ≤ x)
    (hO : x < s.outCur.toNat ∨ s.outCur.toNat + 0x40 * n + 2 ≤ x) :
    (State.groupTurns n s).wsByte x = s.wsByte x := by
  induction n generalizing s with
  | zero => rfl
  | succ n ih =>
    have hcursor : s.groupTurn.outCur.toNat = s.outCur.toNat + 0x40 := by
      rw [State.groupTurn_outCur]
      bv_omega
    rw [State.groupTurns, ih (groupTurn_holdsSlots hs) (by omega) (by omega)]
    exact wsByte_groupTurn_of_outside hs hA hB (by omega)

@[simp] theorem subBlock_epoch (s : State) : s.subBlock.epoch = s.epoch := (subBlock_keeps s).epoch

@[simp] theorem subBlock_extRd (s : State) : s.subBlock.extRd = s.extRd + 0x180 := by simp [State.subBlock]

@[simp] theorem subBlock_extWr (s : State) : s.subBlock.extWr = s.extWr + 0x180 := by simp [State.subBlock]

theorem subBlock_ws (s : State) : s.subBlock.ws = (State.groupTurns 6 s.subBlockLoad).ws := by
  simp only [State.subBlock, State.subBlockStore_ws, State.groupsDone_ws]

/-- The store copies the output block of the workspace it leaves (rule R135). -/
theorem subBlock_ext (s : State) : s.subBlock.ext =
    copyOut s.extSize s.ext s.epoch s.subBlock.ws s.extWr.toNat s.cfg.outOff.toNat 0x180 := by
  rw [subBlock_ws]
  simp [State.subBlock, State.extSize]

section
variable (hl : s.cfg.Layout)
include hl

/-- The load writes the input block only (rule R129). -/
theorem wsByte_subBlockLoad (x : Nat) : s.subBlockLoad.wsByte x =
    if s.cfg.inOff.toNat ≤ x ∧ x < s.cfg.inOff.toNat + 0x180 then s.extByte (s.extRd.toNat + (x - s.cfg.inOff.toNat))
    else s.wsByte x := by
  rw [State.wsByte, State.subBlockLoad_epoch, State.subBlockLoad_ws]
  exact wsByteAt_copyIn s.epoch s.ws s.ext _ _ _ hl.input_inside x

variable (hs : s.HoldsSlots s.cfg.slotA s.cfg.slotB)
include hs

/-- What a sub-block does after its load reaches the slots and the output block with its spill only. -/
theorem wsByte_subBlock_of_outside {x : Nat}
    (hA : x < s.cfg.slotA.toNat ∨ s.cfg.slotA.toNat + 0x220 ≤ x)
    (hB : x < s.cfg.slotB.toNat ∨ s.cfg.slotB.toNat + 0x220 ≤ x)
    (hO : x < s.cfg.outOff.toNat ∨ s.cfg.outOff.toNat + 0x182 ≤ x) :
    s.subBlock.wsByte x = s.subBlockLoad.wsByte x := by
  have hfit := hl.output_inside
  have hturns := wsByte_groupTurns_of_outside 6 (s := s.subBlockLoad) hs (by rw [State.subBlockLoad_outCur]; omega)
    hA hB hO
  rw [State.wsByte, State.groupTurns_epoch] at hturns
  rw [State.wsByte, subBlock_ws, subBlock_epoch]
  exact hturns

/-- A sub-block leaves the input block as it loaded it. -/
theorem wsByte_subBlock_input {k : Nat} (hk : k < 0x180) :
    s.subBlock.wsByte (s.cfg.inOff.toNat + k) = s.extByte (s.extRd.toNat + k) := by
  have hA := hl.slotA_input
  have hB := hl.slotB_input
  have hO := hl.output_input
  rw [wsByte_subBlock_of_outside hl hs (by omega) (by omega) (by omega), wsByte_subBlockLoad hl, if_pos (by omega),
    Nat.add_sub_cancel_left]

end

/-- A sub-block's store writes 0x180 external bytes, the output block's. -/
theorem extByte_subBlock (hE : s.extWr.toNat + 0x180 ≤ s.extSize) (x : Nat) : s.subBlock.extByte x =
    if s.extWr.toNat ≤ x ∧ x < s.extWr.toNat + 0x180 then
      s.subBlock.wsByte (s.cfg.outOff.toNat + (x - s.extWr.toNat))
    else s.extByte x := by
  rw [State.extByte, subBlock_ext, extByteAt_copyOut _ _ _ _ _ _ _ hE, State.wsByte, subBlock_epoch, State.extByte]

end

/-! ### The frame after its first sub-blocks -/

/-- `EXT_SIZE` is at most 2^32 (20_memory.md rule R48). -/
theorem extSize_lt (s : State) : s.extSize < 4294967297 := s.cfg.extSize.isLt

section
variable (s : State) (E p0 : Word) (n : Nat)

@[simp] theorem afterSubBlocks_cfg : (s.afterSubBlocks E p0 n).cfg = s.cfg := by
  induction n with
  | zero => rfl
  | succ n ih => rw [State.afterSubBlocks, subBlock_cfg, ih]

@[simp] theorem afterSubBlocks_extSize : (s.afterSubBlocks E p0 n).extSize = s.extSize := by
  rw [State.extSize, afterSubBlocks_cfg, State.extSize]

/-- What each sub-block moves by 0x180 has moved by 0x180 * n. -/
theorem afterSubBlocks_moves_field {f : State → Word} (hf : ∀ t, f t.subBlock = f t + BitVec.ofNat 32 0x180) :
    f (s.afterSubBlocks E p0 n) = f (s.frameStart E p0) + BitVec.ofNat 32 (0x180 * n) := by
  induction n with
  | zero => exact (BitVec.add_zero _).symm
  | succ n ih => rw [State.afterSubBlocks, hf, ih, Nat.mul_succ, BitVec.ofNat_add, BitVec.add_assoc]

theorem afterSubBlocks_extRd : (s.afterSubBlocks E p0 n).extRd = E + 8 + BitVec.ofNat 32 (0x180 * n) :=
  afterSubBlocks_moves_field s E p0 n subBlock_extRd

theorem afterSubBlocks_extWr : (s.afterSubBlocks E p0 n).extWr = E + BitVec.ofNat 32 (0x180 * n) :=
  afterSubBlocks_moves_field s E p0 n subBlock_extWr

theorem afterSubBlocks_holdsSlots (hl : s.cfg.Layout) :
    (s.afterSubBlocks E p0 n).HoldsSlots s.cfg.slotA s.cfg.slotB := by
  induction n with
  | zero => exact .inl ⟨slotMask_of_aligned hl.slotA_aligned, slotMask_of_aligned hl.slotB_aligned⟩
  | succ n ih => exact subBlock_holdsSlots ih

/-! ### What a frame leaves in the two memories (rules R128, R129, R135, R137, R138) -/

section
variable {s E p0 n} (hl : s.cfg.Layout) (hE : E.toNat + 0x488 ≤ s.extSize)

include hE

/-- No cursor of a frame in range wraps before its last use (log entry 22). -/
theorem afterSubBlocks_extRd_toNat (hn : n < 3) :
    (s.afterSubBlocks E p0 n).extRd.toNat = E.toNat + 8 + 0x180 * n := by
  have hsize := extSize_lt s
  rw [afterSubBlocks_extRd]
  bv_omega

theorem afterSubBlocks_extWr_toNat (hn : n < 3) : (s.afterSubBlocks E p0 n).extWr.toNat = E.toNat + 0x180 * n := by
  have hsize := extSize_lt s
  rw [afterSubBlocks_extWr]
  bv_omega

/-- The next store's bytes exist. -/
theorem afterSubBlocks_store_inside (hn : n < 3) :
    (s.afterSubBlocks E p0 n).extWr.toNat + 0x180 ≤ (s.afterSubBlocks E p0 n).extSize := by
  rw [afterSubBlocks_extWr_toNat hE hn, afterSubBlocks_extSize]
  omega

/-- The first n sub-blocks write their own thirds of the output only. -/
theorem extByte_afterSubBlocks_of_outside (hn : n ≤ 3) {x : Nat} (hx : x < E.toNat ∨ E.toNat + 0x180 * n ≤ x) :
    (s.afterSubBlocks E p0 n).extByte x = s.extByte x := by
  induction n with
  | zero => rfl
  | succ n ih =>
    rw [State.afterSubBlocks, extByte_subBlock (afterSubBlocks_store_inside hE hn), afterSubBlocks_extWr_toNat hE hn,
      if_neg (by omega), ih (by omega) (by omega)]

omit hE
include hl

/-- HeaderRead writes the header region only (rule R128). -/
theorem wsByte_frameStart (x : Nat) : (s.frameStart E p0).wsByte x =
    if s.cfg.hdrOff.toNat ≤ x ∧ x < s.cfg.hdrOff.toNat + 8 then s.extByte (E.toNat + (x - s.cfg.hdrOff.toNat))
    else s.wsByte x :=
  wsByteAt_copyIn s.epoch s.ws s.ext _ _ _ hl.header_inside x

/-- A sub-block of a frame leaves what is outside the slots, the input block and the output block with its spill. -/
theorem wsByte_afterSubBlocks_of_outside {x : Nat}
    (hA : x < s.cfg.slotA.toNat ∨ s.cfg.slotA.toNat + 0x220 ≤ x)
    (hB : x < s.cfg.slotB.toNat ∨ s.cfg.slotB.toNat + 0x220 ≤ x)
    (hI : x < s.cfg.inOff.toNat ∨ s.cfg.inOff.toNat + 0x180 ≤ x)
    (hO : x < s.cfg.outOff.toNat ∨ s.cfg.outOff.toNat + 0x182 ≤ x) :
    (s.afterSubBlocks E p0 n).wsByte x = (s.frameStart E p0).wsByte x := by
  induction n with
  | zero => rfl
  | succ n ih =>
    have hcfg := afterSubBlocks_cfg s E p0 n
    have hslots := afterSubBlocks_holdsSlots s E p0 n hl
    rw [← hcfg] at hl hslots hA hB hI hO
    rw [State.afterSubBlocks, wsByte_subBlock_of_outside hl hslots hA hB hO, wsByte_subBlockLoad hl,
      if_neg (by omega), ih]

end

end

@[simp] theorem State.completed_wsByte (s : State) (x : Nat) : s.completed.wsByte x = s.wsByte x := rfl
@[simp] theorem State.completed_extByte (s : State) (x : Nat) : s.completed.extByte x = s.extByte x := rfl
@[simp] theorem State.frameDone_wsByte (s : State) (x : Nat) : s.frameDone.wsByte x = s.wsByte x := rfl
@[simp] theorem State.frameDone_extByte (s : State) (x : Nat) : s.frameDone.extByte x = s.extByte x := rfl

/-- DECODE as its sub-blocks. -/
theorem exec_decode_eq_afterSubBlocks {s : State} (h : s.DecodeOk) :
    exec .decode s = .next (s.afterSubBlocks s.a0 s.a1 3).frameDone.completed := by
  rw [exec_decode_of_legal h, decodeFrame_eq]

/-! ### The statements -/

/-- Settles O44: HeaderRead, the loads, the groups and the stores each keep to their own region. -/
theorem decodeFootprint : Obligations.DecodeFootprint := by
  intro s hok
  obtain ⟨hw, -, -, hE⟩ := id hok
  have hl := Config.layout_of_wellFormed hw
  refine ⟨_, exec_decode_eq_afterSubBlocks hok, fun x hx => ?_, fun x hA hB hH hI hO => ?_⟩
  · rw [State.completed_extByte, State.frameDone_extByte]
    exact extByte_afterSubBlocks_of_outside hE le_rfl hx
  · have hstart := wsByte_frameStart (E := s.a0) (p0 := s.a1) hl x
    rw [if_neg (by omega)] at hstart
    rw [State.completed_wsByte, State.frameDone_wsByte]
    exact (wsByte_afterSubBlocks_of_outside hl hA hB hI hO).trans hstart

/-- Settles O45: no later action reaches the header region, or the last input block, or the last third of the output. -/
theorem decodeLeavesWorkspace : Obligations.DecodeLeavesWorkspace := by
  intro s hok
  obtain ⟨hw, -, -, hE⟩ := id hok
  have hl := Config.layout_of_wellFormed hw
  have hcfg := afterSubBlocks_cfg s s.a0 s.a1 2
  have hslots := afterSubBlocks_holdsSlots s s.a0 s.a1 2 hl
  refine ⟨_, exec_decode_eq_afterSubBlocks hok, fun k hk => ?_, fun k hk => ?_, fun k hk => ?_⟩
  · have hA := hl.slotA_header
    have hB := hl.slotB_header
    have hI := hl.input_header
    have hO := hl.output_header
    have hstart := wsByte_frameStart (E := s.a0) (p0 := s.a1) hl (s.cfg.hdrOff.toNat + k)
    rw [if_pos (by omega), Nat.add_sub_cancel_left] at hstart
    rw [State.completed_wsByte, State.frameDone_wsByte]
    exact (wsByte_afterSubBlocks_of_outside hl (by omega) (by omega) (by omega) (by omega)).trans hstart
  · have hinput := wsByte_subBlock_input (s := s.afterSubBlocks s.a0 s.a1 2) (hcfg ▸ hl) (hcfg ▸ hslots) hk
    rw [hcfg, afterSubBlocks_extRd_toNat hE (by omega), extByte_afterSubBlocks_of_outside hE (by omega) (by omega)]
      at hinput
    rw [State.completed_wsByte, State.frameDone_wsByte]
    exact hinput
  · have hinside := afterSubBlocks_store_inside (p0 := s.a1) (n := 2) hE (by omega)
    have hstore := extByte_subBlock hinside (s.a0.toNat + 0x300 + k)
    rw [afterSubBlocks_extWr_toNat hE (by omega), if_pos (by omega), hcfg, Nat.add_sub_cancel_left] at hstore
    rw [State.completed_wsByte, State.frameDone_wsByte, State.completed_extByte, State.frameDone_extByte]
    exact hstore.symm

end Sys2Proof.Machine

/-! ## DECODE as its commands (95_test_vectors.md program 5): a run of the commands beside the frame driver -/

namespace Sys2Proof.Machine

/-! ### Runs of commands -/

theorem runAll_cons {i : Instr} {a0 a1 a2 : Word} {rest : List Issued} {s t : State}
    (h : exec i { s with a0 := a0, a1 := a1, a2 := a2 } = .next t) :
    runAll ((i, a0, a1, a2) :: rest) s = runAll rest t := by
  rw [runAll, h]

theorem runAll_append {l l' : List Issued} {s t : State} (h : runAll l s = .next t) :
    runAll (l ++ l') s = runAll l' t := by
  induction l generalizing s with
  | nil =>
    cases h
    rfl
  | cons x rest ih =>
    obtain ⟨i, a0, a1, a2⟩ := x
    rw [List.cons_append, runAll]
    rw [runAll] at h
    cases hx : exec i { s with a0 := a0, a1 := a1, a2 := a2 } with
    | next u =>
      rw [hx] at h
      exact ih h
    | fault f =>
      rw [hx] at h
      cases h
    | refused r =>
      rw [hx] at h
      cases h

/-! ### The copies with legal operands (41_workspace_ops.md rules R88, R89) -/

section
variable {s : State} {o e n : Nat} (hn : s.a2.toNat = n)
include hn

theorem exec_bload_of_legal (ho : s.a1.toNat = o) (he : s.a0.toNat = e) (hws : o + n ≤ 4096)
    (hext : e + n ≤ s.extSize) :
    exec .bload s = .next { s with ws := copyIn s.ws s.ext o e n, lastOk := true } := by
  subst ho he hn
  refine perform_of_checks_pass (commandEffect .bload) ?_
  simp [wsRange, extRange, unsigned, hws, hext]

theorem exec_bstore_of_legal (ho : s.a0.toNat = o) (he : s.a1.toNat = e) (hws : o + n ≤ 4096)
    (hext : e + n ≤ s.extSize) :
    exec .bstore s = .next { s with ext := copyOut s.extSize s.ext s.epoch s.ws e o n, lastOk := true } := by
  subst ho he hn
  refine perform_of_checks_pass (commandEffect .bstore) ?_
  simp [wsRange, extRange, unsigned, hws, hext]

end

/-! ### The state of the commands beside that of the frame driver -/

/-- `t`, reached by commands, holds no fault and what the frame driver works with in `d`: the memories, the phase, the
slot registers, the gains and the configuration. The operand registers and the driver's own registers may differ. -/
structure Tracks (d t : State) : Prop where
  unfaulted : t.faulted = false
  ws : t.ws = d.ws
  ext : t.ext = d.ext
  phase : t.phase = d.phase
  slotNew : t.slotNew = d.slotNew
  slotPrev : t.slotPrev = d.slotPrev
  g0 : t.g0 = d.g0
  g1 : t.g1 = d.g1
  cfg : t.cfg = d.cfg
  epoch : t.epoch = d.epoch

section
variable {d t : State} (h : Tracks d t)
include h

theorem Tracks.extSize : t.extSize = d.extSize := by
  rw [State.extSize, h.cfg, State.extSize]

theorem Tracks.groupPhase : t.groupPhase = d.groupPhase := by
  rw [State.groupPhase, h.cfg, h.phase, State.groupPhase]

/-- BLOAD is the load of a sub-block (rule R129). -/
theorem Tracks.bload (hin : d.cfg.inOff.toNat + 0x180 ≤ 4096) {e : Word} (he : e.toNat = d.extRd.toNat)
    (hext : d.extRd.toNat + 0x180 ≤ d.extSize) :
    ∃ t', exec .bload { t with a0 := e, a1 := d.cfg.inOff.setWidth 32, a2 := 0x180 } = .next t' ∧
      Tracks d.subBlockLoad t' := by
  refine ⟨_, exec_bload_of_legal (n := 0x180) rfl (setWidth_32_toNat d.cfg.inOff) he hin
    (hext.trans_eq h.extSize.symm), h.unfaulted, ?_, h.ext, h.phase, h.slotNew, h.slotPrev, h.g0, h.g1, h.cfg, h.epoch⟩
  rw [State.subBlockLoad_ws, h.ws, h.ext]

/-- BSTORE is the store of a sub-block (rule R135). -/
theorem Tracks.bstore (hout : d.cfg.outOff.toNat + 0x180 ≤ 4096) {e : Word} (he : e.toNat = d.extWr.toNat)
    (hext : d.extWr.toNat + 0x180 ≤ d.extSize) :
    ∃ t', exec .bstore { t with a0 := d.cfg.outOff.setWidth 32, a1 := e, a2 := 0x180 } = .next t' ∧
      Tracks d.subBlockStore t' := by
  refine ⟨_, exec_bstore_of_legal (n := 0x180) rfl (setWidth_32_toNat d.cfg.outOff) he hout
    (hext.trans_eq h.extSize.symm), h.unfaulted, h.ws, ?_, h.phase, h.slotNew, h.slotPrev, h.g0, h.g1, h.cfg, h.epoch⟩
  rw [State.subBlockStore_ext, h.ws, h.ext, h.epoch, State.extSize, h.cfg, State.extSize]

/-- The same group body on both. -/
theorem Tracks.groupBody (I O : Nat) : Tracks (d.groupBody I O) (t.groupBody I O) where
  unfaulted := (State.groupBody_faulted t I O).trans h.unfaulted
  ws := by rw [groupBody_ws, groupBody_ws, h.groupPhase, h.ws, h.slotNew, h.slotPrev, h.g0, h.g1, h.cfg, h.epoch]
  ext := by rw [State.groupBody_ext, State.groupBody_ext, h.ext]
  phase := by rw [State.groupBody_phase, State.groupBody_phase, h.phase]
  slotNew := by rw [groupBody_slotNew, groupBody_slotNew, h.groupPhase, h.slotPrev]
  slotPrev := by rw [groupBody_slotPrev, groupBody_slotPrev, h.groupPhase, h.slotNew]
  g0 := by rw [State.groupBody_g0, State.groupBody_g0, h.g0]
  g1 := by rw [State.groupBody_g1, State.groupBody_g1, h.g1]
  cfg := by rw [State.groupBody_cfg, State.groupBody_cfg, h.cfg]
  epoch := by rw [State.groupBody_epoch, State.groupBody_epoch, h.epoch]

/-- The operands and `LAST_OK` are none of the driver's. -/
theorem Tracks.operands (i o x : Word) : Tracks d { t with a0 := i, a1 := o, a2 := x } :=
  ⟨h.unfaulted, h.ws, h.ext, h.phase, h.slotNew, h.slotPrev, h.g0, h.g1, h.cfg, h.epoch⟩

theorem Tracks.completed : Tracks d t.completed :=
  ⟨h.unfaulted, h.ws, h.ext, h.phase, h.slotNew, h.slotPrev, h.g0, h.g1, h.cfg, h.epoch⟩

/-- The driver's actions that move only its own registers. -/
theorem Tracks.groupsDone : Tracks d.groupsDone t :=
  ⟨h.unfaulted, h.ws, h.ext, h.phase, h.slotNew, h.slotPrev, h.g0, h.g1, h.cfg, h.epoch⟩

omit h

theorem Tracks.groupTurn (h : Tracks (d.groupBody d.inCur.toNat d.outCur.toNat) t) : Tracks d.groupTurn t :=
  ⟨h.unfaulted, h.ws, h.ext, h.phase, h.slotNew, h.slotPrev, h.g0, h.g1, h.cfg, h.epoch⟩

end

/-! ### The groups of a sub-block -/

section
variable {d t : State} {A B : Half}

/-- GROUP at the driver's cursors is a turn of GroupLoop (rules R130, R134). -/
theorem Tracks.group (h : Tracks d t) {i o x : Word} (hi : i.toNat = d.inCur.toNat) (ho : o.toNat = d.outCur.toNat)
    (hieven : d.inCur.toNat % 2 = 0) (hoeven : d.outCur.toNat % 2 = 0) (hiin : d.inCur.toNat + 0x40 ≤ 4096)
    (hoin : d.outCur.toNat + 0x42 ≤ 4096) (hs : d.HoldsSlots A B) (hA : A.toNat + 0x220 ≤ 4096)
    (hB : B.toNat + 0x220 ≤ 4096) :
    ∃ t', exec .group { t with a0 := i, a1 := o, a2 := x } = .next t' ∧ Tracks d.groupTurn t' := by
  obtain ⟨hnew, hprev⟩ := hs.bases (p := fun base => base.toNat + 0x220 ≤ 4096) hA hB
  rw [← h.slotNew] at hnew
  rw [← h.slotPrev] at hprev
  rw [← hi] at hieven hiin
  rw [← ho] at hoeven hoin
  have hbody := ((h.operands i o x).groupBody i.toNat o.toNat).completed
  refine ⟨_, exec_group_of_legal ⟨hieven, hoeven, hiin, hoin, hnew, hprev⟩, Tracks.groupTurn ?_⟩
  rw [← hi, ← ho]
  exact hbody

end

/-- The GROUP of a sub-block's script for group g. -/
def groupCommand (c : Config) (g : Nat) : Issued :=
  (.group, BitVec.ofNat 32 (c.inOff.toNat + 0x40 * g), BitVec.ofNat 32 (c.outOff.toNat + 0x40 * g), 0)

theorem subBlockScript_eq (c : Config) (E sb : Nat) : subBlockScript c E sb =
    (.bload, BitVec.ofNat 32 (E + 8 + 0x180 * sb), c.inOff.setWidth 32, 0x180) ::
      ((List.range 6).map (groupCommand c) ++
        [(.bstore, c.outOff.setWidth 32, BitVec.ofNat 32 (E + 0x180 * sb), 0x180)]) := rfl

section
variable {c : Config} {d t : State} (hl : c.Layout) (heven : c.layoutEven = true)
  (hs : d.HoldsSlots c.slotA c.slotB) (hin : d.inCur = c.inOff) (hout : d.outCur = c.outOff)
include hl heven hs hin hout

/-- The first n GROUPs of a script are n turns of GroupLoop. -/
theorem Tracks.groups (h : Tracks d t) {n : Nat} (hn : n ≤ 6) :
    ∃ t', runAll ((List.range n).map (groupCommand c)) t = .next t' ∧ Tracks (State.groupTurns n d) t' := by
  obtain ⟨-, hineven, houteven⟩ := (Config.layoutEven_iff c).mp heven
  have hinside := hl.input_inside
  have houtside := hl.output_inside
  induction n with
  | zero => exact ⟨t, rfl, h⟩
  | succ n ih =>
    obtain ⟨u, hrun, hu⟩ := ih (by omega)
    have hincur : (State.groupTurns n d).inCur.toNat = c.inOff.toNat + 0x40 * n := by
      rw [groupTurns_inCur, hin]
      bv_omega
    have houtcur : (State.groupTurns n d).outCur.toNat = c.outOff.toNat + 0x40 * n := by
      rw [groupTurns_outCur, hout]
      bv_omega
    obtain ⟨t', hgroup, ht'⟩ := hu.group (i := BitVec.ofNat 32 (c.inOff.toNat + 0x40 * n))
      (o := BitVec.ofNat 32 (c.outOff.toNat + 0x40 * n)) (x := 0) (by rw [hincur, BitVec.toNat_ofNat]; omega)
      (by rw [houtcur, BitVec.toNat_ofNat]; omega) (by omega) (by omega) (by omega) (by omega)
      (groupTurns_holdsSlots n hs) hl.slotA_inside hl.slotB_inside
    refine ⟨t', ?_, (groupTurns_succ n d).symm ▸ ht'⟩
    rw [List.range_succ, List.map_append, runAll_append hrun]
    exact runAll_cons hgroup

end

/-! ### The frame -/

/-- A sub-block's script is the sub-block (rules R129 to R135). -/
theorem Tracks.subBlock {d t : State} (h : Tracks d t) (hl : d.cfg.Layout) (heven : d.cfg.layoutEven = true)
    (hs : d.HoldsSlots d.cfg.slotA d.cfg.slotB) {E n : Nat} (hrd : d.extRd.toNat = E + 8 + 0x180 * n)
    (hwr : d.extWr.toNat = E + 0x180 * n) (hE : E + 8 + 0x180 * n + 0x180 ≤ d.extSize) :
    ∃ t', runAll (subBlockScript d.cfg E n) t = .next t' ∧ Tracks d.subBlock t' := by
  have hsize := extSize_lt d
  have hrdWord : (BitVec.ofNat 32 (E + 8 + 0x180 * n)).toNat = d.extRd.toNat := by
    rw [BitVec.toNat_ofNat]
    omega
  have hwrWord : (BitVec.ofNat 32 (E + 0x180 * n)).toNat = d.extWr.toNat := by
    rw [BitVec.toNat_ofNat]
    omega
  have hcfg : (State.groupTurns 6 d.subBlockLoad).groupsDone.cfg = d.cfg := State.groupTurns_cfg 6 d.subBlockLoad
  have hend : (State.groupTurns 6 d.subBlockLoad).groupsDone.extWr = d.extWr := State.groupTurns_extWr 6 d.subBlockLoad
  have hout : d.cfg.outOff.toNat + 0x180 ≤ 4096 := by
    have := hl.output_inside
    omega
  obtain ⟨t1, hload, h1⟩ := h.bload hl.input_inside hrdWord (by omega)
  obtain ⟨t2, hgroups, h2⟩ := Tracks.groups hl heven (d := d.subBlockLoad) hs rfl rfl h1 le_rfl
  obtain ⟨t3, hstore, h3⟩ := h2.groupsDone.bstore (hcfg.symm ▸ hout) (hend.symm ▸ hwrWord)
    (by rw [hend, State.extSize, hcfg]; exact (show d.extWr.toNat + 0x180 ≤ d.extSize by omega))
  refine ⟨t3, ?_, h3⟩
  rw [hcfg] at hstore
  rw [subBlockScript_eq, runAll_cons hload, runAll_append hgroups, runAll_cons hstore, runAll]

section
variable {s : State} {E p0 : Word} (hl : s.cfg.Layout) (heven : s.cfg.layoutEven = true)
  (hE : E.toNat + 0x488 ≤ s.extSize)
include hl heven hE

/-- The script of sub-block n of a frame is that sub-block. -/
theorem Tracks.afterSubBlocks_succ {n : Nat} (hn : n < 3) {t : State} (h : Tracks (s.afterSubBlocks E p0 n) t) :
    ∃ t', runAll (subBlockScript s.cfg E.toNat n) t = .next t' ∧ Tracks (s.afterSubBlocks E p0 (n + 1)) t' := by
  have hcfg := afterSubBlocks_cfg s E p0 n
  have hslots := afterSubBlocks_holdsSlots s E p0 n hl
  have hsub := h.subBlock (hcfg.symm ▸ hl) (hcfg.symm ▸ heven) (hcfg.symm ▸ hslots)
    (afterSubBlocks_extRd_toNat hE hn) (afterSubBlocks_extWr_toNat hE hn) (by rw [afterSubBlocks_extSize]; omega)
  rwa [hcfg] at hsub

/-- The three scripts, from a state that holds what HeaderRead leaves. -/
theorem Tracks.frame {t : State} (h : Tracks (s.frameStart E p0) t) :
    ∃ t', runAll
        (subBlockScript s.cfg E.toNat 0 ++ subBlockScript s.cfg E.toNat 1 ++ subBlockScript s.cfg E.toNat 2) t =
      .next t' ∧ Tracks (s.afterSubBlocks E p0 3) t' := by
  obtain ⟨t1, hrun1, h1⟩ := Tracks.afterSubBlocks_succ hl heven hE (p0 := p0) (n := 0) (by omega) h
  obtain ⟨t2, hrun2, h2⟩ := Tracks.afterSubBlocks_succ hl heven hE (n := 1) (by omega) h1
  obtain ⟨t3, hrun3, h3⟩ := Tracks.afterSubBlocks_succ hl heven hE (n := 2) (by omega) h2
  exact ⟨t3, by rw [List.append_assoc, runAll_append hrun1, runAll_append hrun2, hrun3], h3⟩

end

/-- BLOAD of the header and the gains from it are HeaderRead, after init (rules R127, R128). -/
theorem Tracks.header {s : State} (hf : s.faulted = false) (hheader : s.cfg.hdrOff.toNat + 8 ≤ 4096)
    (hE : s.a0.toNat + 8 ≤ s.extSize) :
    ∃ h, exec .bload { s with
        phase := BitVec.ofNat 4 s.a1.toNat
        slotNew := s.cfg.slotA
        slotPrev := s.cfg.slotB
        a1 := s.cfg.hdrOff.setWidth 32
        a2 := 8 } = .next h ∧
      Tracks (s.frameStart s.a0 s.a1)
        { h with g0 := h.sample s.cfg.hdrOff.toNat, g1 := h.sample (s.cfg.hdrOff.toNat + 4) } :=
  ⟨_, exec_bload_of_legal (n := 8) rfl (setWidth_32_toNat s.cfg.hdrOff) rfl hheader hE, hf, rfl, rfl,
    BitVec.ofNat_toNat 4 s.a1, rfl, rfl, rfl, rfl, rfl, rfl⟩

/-- Settles O47: the commands keep beside the frame driver, action by action, without a fault. -/
theorem decodeIsItsCommands : Obligations.DecodeIsItsCommands := by
  intro s hok hf
  obtain ⟨hw, heven, -, hE⟩ := id hok
  have hl := Config.layout_of_wellFormed hw
  obtain ⟨h, hload, hstart⟩ := Tracks.header hf hl.header_inside (by omega)
  obtain ⟨t, hrun, ht⟩ := hstart.frame hl heven hE
  refine ⟨h, t, _, hload, hrun, ht.unfaulted, exec_decode_eq_afterSubBlocks hok, ?_⟩
  simp only [State.completed_ws, State.completed_ext, State.completed_phase, State.completed_slotNew,
    State.completed_slotPrev, State.completed_g0, State.completed_g1, State.frameDone_ws, State.frameDone_ext,
    State.frameDone_phase, State.frameDone_slotNew, State.frameDone_slotPrev, State.frameDone_g0, State.frameDone_g1]
  exact ⟨ht.ws.symm, ht.ext.symm, ht.phase.symm, ht.slotNew.symm, ht.slotPrev.symm, ht.g0.symm, ht.g1.symm⟩

end Sys2Proof.Machine

/-! ## What a frame's output depends on (46_frame_driver.md rule R138; 95_test_vectors.md P-IDEM): two frames side by
side -/

namespace Sys2Proof.Machine

/-! ### Two workspaces that read the same somewhere

The two may belong to different resets `e` and `e'`, so that their unwritten bytes differ. -/

section
variable {e e' : Nat} {m m' : Memory} {R : Set Nat}

/-- Writing one sample to both keeps the bytes they agree on, and makes them agree on the two it writes. -/
theorem eqOn_putSample (h : Set.EqOn (wsByteAt e m) (wsByteAt e' m') R) (a : Nat) (ha : a + 2 ≤ 4096) (v : Half) :
    Set.EqOn (wsByteAt e (putSample m a v)) (wsByteAt e' (putSample m' a v)) (R ∪ Set.Ico a (a + 2)) := by
  intro x hx
  rw [wsByteAt_putSample, wsByteAt_putSample]
  split_ifs with h1 h0
  · rfl
  · rfl
  · rcases hx with hx | hx
    · exact h hx
    · rw [Set.mem_Ico] at hx
      omega

theorem eqOn_putSample_keeps (h : Set.EqOn (wsByteAt e m) (wsByteAt e' m') R) (a : Nat) (v : Half) :
    Set.EqOn (wsByteAt e (putSample m a v)) (wsByteAt e' (putSample m' a v)) R := by
  intro x hx
  rw [wsByteAt_putSample, wsByteAt_putSample, h hx]

theorem eqOn_putSamples_keeps (h : Set.EqOn (wsByteAt e m) (wsByteAt e' m') R) (l : List (Nat × Word)) :
    Set.EqOn (wsByteAt e (putSamples m l)) (wsByteAt e' (putSamples m' l)) R := by
  induction l generalizing m m' with
  | nil => exact h
  | cons w rest ih => exact ih (eqOn_putSample_keeps h w.1 _)

theorem sampleAt_congr (h : Set.EqOn (wsByteAt e m) (wsByteAt e' m') R) {a : Nat} (ha : Set.Ico a (a + 2) ⊆ R) :
    sampleAt e m a = sampleAt e' m' a := by
  rw [sampleAt, sampleAt, h (ha (by simp)), h (ha (by simp))]

/-! ### The stages of a group on both -/

variable {c : Config}

/-- The transform reads its input only, so it stores the same on both (43_synthesis.md rule R103). -/
theorem eqOn_synthesis (h : Set.EqOn (wsByteAt e m) (wsByteAt e' m') R) {I : Nat} (hI : Set.Ico I (I + 0x40) ⊆ R)
    (N P : Nat) : Set.EqOn (wsByteAt e (synthesis c e m I N P)) (wsByteAt e' (synthesis c e' m' I N P)) R := by
  have hinput {m m' : Memory} (h : Set.EqOn (wsByteAt e m) (wsByteAt e' m') R) (k : Fin 32) :
      inputSample e m I k = inputSample e' m' I k := by
    refine congrArg sext32 (sampleAt_congr h (subset_trans (Set.Ico_subset_Ico ?_ ?_) hI))
    · omega
    · omega
  have heven : Set.EqOn (wsByteAt e (evenPass c e m I N P)) (wsByteAt e' (evenPass c e' m' I N P)) R := by
    have hsame : evenInput c e m I = evenInput c e' m' I := by simp only [evenInput, hinput h]
    rw [evenPass, evenPass, hsame]
    exact eqOn_putSamples_keeps h _
  have hsame : oddInput c e (evenPass c e m I N P) I = oddInput c e' (evenPass c e' m' I N P) I := by
    simp only [oddInput, hinput heven]
  rw [synthesis, synthesis, oddPass, oddPass, hsame]
  exact eqOn_putSamples_keeps heven _

/-- The window reads its slot's rows only, so it stores the same on both (44_window.md rule R120). -/
theorem eqOn_windowPass (h : Set.EqOn (wsByteAt e m) (wsByteAt e' m') R) {H O : Nat} (hH : Set.Ico H (H + 0x220) ⊆ R)
    (hO : O + 0x42 ≤ 4096) (p : Nat) :
    Set.EqOn (wsByteAt e (windowPass c e m p H O)) (wsByteAt e' (windowPass c e' m' p H O))
      (R ∪ Set.Ico O (O + 0x42)) := by
  have houtputs (n : Nat) (hn : n ≤ 33) :
      Set.EqOn (wsByteAt e (windowOutputs c e m p H O n)) (wsByteAt e' (windowOutputs c e' m' p H O n))
        (R ∪ Set.Ico O (O + 2 * n)) := by
    induction n with
    | zero => simpa [windowOutputs] using h
    | succ n ih =>
      have ih := ih (by omega)
      have hrows : ∀ r < 17, ∀ k < 16, hist e (windowOutputs c e m p H O n) H r k =
          hist e' (windowOutputs c e' m' p H O n) H r k := by
        intro r hr k hk
        refine sampleAt_congr (ih.mono Set.subset_union_left) (subset_trans (Set.Ico_subset_Ico ?_ ?_) hH)
        · omega
        · omega
      rw [windowOutputs_succ, windowOutputs_succ, windowValue_congr (by omega) hrows]
      refine (eqOn_putSample ih (O + 2 * n) (by omega) _).mono ?_
      rw [Set.union_assoc, Set.Ico_union_Ico_eq_Ico (by omega) (by omega)]
      exact subset_rfl
  exact houtputs 33 le_rfl

/-- The gain stage reads its own samples only (45_gain.md rule R121). -/
theorem eqOn_applyGain (h : Set.EqOn (wsByteAt e m) (wsByteAt e' m') R) {o n : Nat} (ho : Set.Ico o (o + 2 * n) ⊆ R)
    (g : Half) : Set.EqOn (wsByteAt e (applyGain e m o n g)) (wsByteAt e' (applyGain e' m' o n g)) R := by
  induction n with
  | zero => exact h
  | succ n ih =>
    have ih := ih (subset_trans (Set.Ico_subset_Ico le_rfl (by omega)) ho)
    have hmine : Set.Ico (o + 2 * n) (o + 2 * n + 2) ⊆ R :=
      subset_trans (Set.Ico_subset_Ico (by omega) (by omega)) ho
    have hsample := sampleAt_congr ih hmine
    rw [applyGain, applyGain] at ih hsample ⊢
    rw [List.range_succ, List.foldl_append, List.foldl_append]
    simp only [List.foldl_cons, List.foldl_nil]
    rw [hsample]
    exact eqOn_putSample_keeps ih _ _

/-- A group that reads bytes both agree on makes them agree on its 33 outputs too (rule R130). -/
theorem eqOn_groupWorkspace (h : Set.EqOn (wsByteAt e m) (wsByteAt e' m') R) {I O : Nat} {N : Half}
    (hI : Set.Ico I (I + 0x40) ⊆ R) (hN : Set.Ico (slotBase (zext32 N)) (slotBase (zext32 N) + 0x220) ⊆ R)
    (hO : O + 0x42 ≤ 4096) (p : BitVec 4) (P g0 g1 : Half) :
    Set.EqOn (wsByteAt e (groupWorkspace c e m I O p N P g0 g1)) (wsByteAt e' (groupWorkspace c e' m' I O p N P g0 g1))
      (R ∪ Set.Ico O (O + 0x42)) := by
  have hwindow := eqOn_windowPass (c := c) (eqOn_synthesis (c := c) h hI N.toNat P.toNat) hN hO p.toNat
  refine eqOn_applyGain (eqOn_applyGain hwindow ?_ g0) ?_ _
  · exact subset_trans (Set.Ico_subset_Ico (by omega) (by omega)) Set.subset_union_right
  · exact subset_trans (Set.Ico_subset_Ico (by omega) (by omega)) Set.subset_union_right

end

/-! ### Two frames side by side -/

/-- `s` and `u` agree on what the frame driver works with, the workspace bytes of R and the external bytes of S. Whatever
else they hold, the reset they descend from among it, may differ. -/
structure SameFrame (R S : Set Nat) (s u : State) : Prop where
  cfg : u.cfg = s.cfg
  phase : u.phase = s.phase
  slotNew : u.slotNew = s.slotNew
  slotPrev : u.slotPrev = s.slotPrev
  g0 : u.g0 = s.g0
  g1 : u.g1 = s.g1
  extRd : u.extRd = s.extRd
  extWr : u.extWr = s.extWr
  ws : Set.EqOn s.wsByte u.wsByte R
  ext : Set.EqOn s.extByte u.extByte S

section
variable {R S : Set Nat} {s u : State}

theorem SameFrame.mono {R' : Set Nat} (h : SameFrame R S s u) (hR : R' ⊆ R) : SameFrame R' S s u :=
  { h with ws := h.ws.mono hR }

theorem SameFrame.groupPhase (h : SameFrame R S s u) : u.groupPhase = s.groupPhase := by
  rw [State.groupPhase, h.cfg, h.phase, State.groupPhase]

theorem SameFrame.groupsDone (h : SameFrame R S s u) : SameFrame R S s.groupsDone u.groupsDone :=
  ⟨h.cfg, h.phase, h.slotNew, h.slotPrev, h.g0, h.g1, h.extRd, h.extWr, h.ws, h.ext⟩

/-- A load from external bytes both agree on makes them agree on the input block (rule R129). -/
theorem SameFrame.subBlockLoad (h : SameFrame R S s u) (hl : s.cfg.Layout)
    (hS : Set.Ico s.extRd.toNat (s.extRd.toNat + 0x180) ⊆ S) :
    SameFrame (R ∪ Set.Ico s.cfg.inOff.toNat (s.cfg.inOff.toNat + 0x180)) S s.subBlockLoad u.subBlockLoad where
  cfg := h.cfg
  phase := h.phase
  slotNew := h.slotNew
  slotPrev := h.slotPrev
  g0 := h.g0
  g1 := h.g1
  extRd := by rw [State.subBlockLoad_extRd, State.subBlockLoad_extRd, h.extRd]
  extWr := h.extWr
  ext := h.ext
  ws := by
    intro x hx
    have hlu : u.cfg.Layout := h.cfg.symm ▸ hl
    rw [wsByte_subBlockLoad hl, wsByte_subBlockLoad hlu, h.cfg, h.extRd]
    split_ifs with hin
    · exact h.ext (hS (by rw [Set.mem_Ico]; omega))
    · exact h.ws (hx.resolve_right hin)

/-- A turn that reads bytes both agree on makes them agree on its outputs (rule R130). -/
theorem SameFrame.groupTurn (h : SameFrame R S s u) (hin : u.inCur = s.inCur) (hout : u.outCur = s.outCur)
    (hI : Set.Ico s.inCur.toNat (s.inCur.toNat + 0x40) ⊆ R)
    (hN : Set.Ico (s.slotNew &&& 0xFFE0#16).toNat ((s.slotNew &&& 0xFFE0#16).toNat + 0x220) ⊆ R)
    (hO : s.outCur.toNat + 0x42 ≤ 4096) :
    SameFrame (R ∪ Set.Ico s.outCur.toNat (s.outCur.toNat + 0x42)) S s.groupTurn u.groupTurn where
  cfg := by rw [State.groupTurn_cfg, State.groupTurn_cfg, h.cfg]
  phase := by rw [State.groupTurn_phase, State.groupTurn_phase, h.phase]
  slotNew := by
    rw [State.groupTurn_slotNew, State.groupTurn_slotNew, groupBody_slotNew, groupBody_slotNew, h.slotPrev, h.groupPhase]
  slotPrev := by
    rw [State.groupTurn_slotPrev, State.groupTurn_slotPrev, groupBody_slotPrev, groupBody_slotPrev, h.slotNew,
      h.groupPhase]
  g0 := by rw [State.groupTurn_g0, State.groupTurn_g0, h.g0]
  g1 := by rw [State.groupTurn_g1, State.groupTurn_g1, h.g1]
  extRd := by rw [State.groupTurn_extRd, State.groupTurn_extRd, h.extRd]
  extWr := by rw [State.groupTurn_extWr, State.groupTurn_extWr, h.extWr]
  ext := by
    intro x hx
    rw [State.extByte, State.extByte, State.groupTurn_ext, State.groupTurn_ext]
    exact h.ext hx
  ws := by
    intro x hx
    have hbase := (slotBase_zext32 (slotAt s.slotNew s.groupPhase)).trans
      (congrArg BitVec.toNat (slotAt_and_mask s.slotNew s.groupPhase))
    rw [← hbase] at hN
    rw [State.wsByte, State.wsByte, State.groupTurn_epoch, State.groupTurn_epoch, State.groupTurn_ws, State.groupTurn_ws,
      groupBody_ws, groupBody_ws, hin, hout, h.cfg, h.groupPhase, h.slotNew, h.slotPrev, h.g0, h.g1]
    exact eqOn_groupWorkspace h.ws hI hN hO _ _ _ _ hx

/-- Turns that read bytes both agree on make them agree on one output after another. -/
theorem SameFrame.groupTurns (h : SameFrame R S s u) (hin : u.inCur = s.inCur) (hout : u.outCur = s.outCur)
    {A B : Half} (hs : s.HoldsSlots A B) (hA : Set.Ico A.toNat (A.toNat + 0x220) ⊆ R)
    (hB : Set.Ico B.toNat (B.toNat + 0x220) ⊆ R) {n : Nat}
    (hI : Set.Ico s.inCur.toNat (s.inCur.toNat + 0x40 * n) ⊆ R) (hIin : s.inCur.toNat + 0x40 * n ≤ 4096)
    (hO : s.outCur.toNat + 0x40 * n + 2 ≤ 4096) :
    SameFrame (R ∪ Set.Ico s.outCur.toNat (s.outCur.toNat + 0x40 * n)) S (State.groupTurns n s)
      (State.groupTurns n u) := by
  induction n with
  | zero => exact h.mono (by simp)
  | succ n ih =>
    have ih := ih (subset_trans (Set.Ico_subset_Ico le_rfl (by omega)) hI) (by omega) (by omega)
    have hincur : (State.groupTurns n s).inCur.toNat = s.inCur.toNat + 0x40 * n := by
      rw [groupTurns_inCur]
      bv_omega
    have houtcur : (State.groupTurns n s).outCur.toNat = s.outCur.toNat + 0x40 * n := by
      rw [groupTurns_outCur]
      bv_omega
    obtain ⟨hN, -⟩ := (groupTurns_holdsSlots n hs).bases
      (p := fun base => Set.Ico base.toNat (base.toNat + 0x220) ⊆ R) hA hB
    have hturn := ih.groupTurn (by rw [groupTurns_inCur, groupTurns_inCur, hin])
      (by rw [groupTurns_outCur, groupTurns_outCur, hout])
      (subset_trans (Set.Ico_subset_Ico (by omega) (by omega)) (subset_trans hI Set.subset_union_left))
      (subset_trans hN Set.subset_union_left) (by omega)
    rw [groupTurns_succ, groupTurns_succ]
    refine hturn.mono ?_
    rw [houtcur, Set.union_assoc, Set.Ico_union_Ico_eq_Ico (by omega) (by omega)]
    exact Set.union_subset_union_right R (Set.Ico_subset_Ico le_rfl (by omega))

/-- A store of bytes both agree on keeps the external bytes they agree on (rule R135). -/
theorem SameFrame.subBlockStore (h : SameFrame R S s u)
    (hO : Set.Ico s.cfg.outOff.toNat (s.cfg.outOff.toNat + 0x180) ⊆ R) (hE : s.extWr.toNat + 0x180 ≤ s.extSize) :
    SameFrame R S s.subBlockStore u.subBlockStore where
  cfg := h.cfg
  phase := h.phase
  slotNew := h.slotNew
  slotPrev := h.slotPrev
  g0 := h.g0
  g1 := h.g1
  extRd := h.extRd
  extWr := by rw [State.subBlockStore_extWr, State.subBlockStore_extWr, h.extWr]
  ws := h.ws
  ext := by
    intro x hx
    have hEu : u.extWr.toNat + 0x180 ≤ u.extSize := by rwa [h.extWr, State.extSize, h.cfg]
    rw [State.extByte, State.extByte, State.subBlockStore_ext, State.subBlockStore_ext,
      extByteAt_copyOut _ _ _ _ _ _ _ hE, extByteAt_copyOut _ _ _ _ _ _ _ hEu, h.extWr, h.cfg]
    split_ifs with hout
    · exact h.ws (hO (by rw [Set.mem_Ico]; omega))
    · exact h.ext hx

/-- A sub-block keeps what both agree on, when they agree on the slots and on the external bytes it loads. -/
theorem SameFrame.subBlock (h : SameFrame R S s u) (hl : s.cfg.Layout) (hs : s.HoldsSlots s.cfg.slotA s.cfg.slotB)
    (hA : Set.Ico s.cfg.slotA.toNat (s.cfg.slotA.toNat + 0x220) ⊆ R)
    (hB : Set.Ico s.cfg.slotB.toNat (s.cfg.slotB.toNat + 0x220) ⊆ R)
    (hS : Set.Ico s.extRd.toNat (s.extRd.toNat + 0x180) ⊆ S) (hE : s.extWr.toNat + 0x180 ≤ s.extSize) :
    SameFrame R S s.subBlock u.subBlock := by
  have hturns := (h.subBlockLoad hl hS).groupTurns (n := 6) (congrArg Config.inOff h.cfg) (congrArg Config.outOff h.cfg)
    hs (subset_trans hA Set.subset_union_left) (subset_trans hB Set.subset_union_left) Set.subset_union_right
    hl.input_inside hl.output_inside
  have hcfg := State.groupTurns_cfg 6 s.subBlockLoad
  have hextWr := State.groupTurns_extWr 6 s.subBlockLoad
  have hstore := hturns.groupsDone.subBlockStore (hcfg.symm ▸ Set.subset_union_right)
    (by rw [State.groupsDone_extWr, hextWr, State.extSize, State.groupsDone_cfg, hcfg]; exact hE)
  exact hstore.mono (subset_trans Set.subset_union_left Set.subset_union_left)

/-- HeaderRead after init, on machines that agree on the operands, the slots and the frame (rules R127, R128). -/
theorem sameFrame_frameStart (hcfg : u.cfg = s.cfg) (hl : s.cfg.Layout) (E p0 : Word)
    (hS : Set.Ico E.toNat (E.toNat + 8) ⊆ S) (hws : Set.EqOn s.wsByte u.wsByte R)
    (hext : Set.EqOn s.extByte u.extByte S) : SameFrame R S (s.frameStart E p0) (u.frameStart E p0) := by
  have hgain {k : Nat} (hk : k + 2 ≤ 8) :
      sampleAt u.epoch (copyIn u.ws u.ext u.cfg.hdrOff.toNat E.toNat 8) (u.cfg.hdrOff.toNat + k) =
        sampleAt s.epoch (copyIn s.ws s.ext s.cfg.hdrOff.toNat E.toNat 8) (s.cfg.hdrOff.toNat + k) := by
    rw [hcfg, sampleAt_copyIn _ _ _ hl.header_inside hk, sampleAt_copyIn _ _ _ hl.header_inside hk]
    exact (congrArg₂ _ (hext (hS (by rw [Set.mem_Ico]; omega))) (hext (hS (by rw [Set.mem_Ico]; omega)))).symm
  refine ⟨hcfg, rfl, congrArg Config.slotA hcfg, congrArg Config.slotB hcfg, hgain (k := 0) (by omega),
    hgain (k := 4) (by omega), rfl, rfl, fun x hx => ?_, hext⟩
  rw [wsByte_frameStart hl, wsByte_frameStart (hcfg.symm ▸ hl), hcfg]
  split_ifs with hin
  · exact hext (hS (by rw [Set.mem_Ico]; omega))
  · exact hws hx

/-- The sub-blocks of a frame keep what two machines agree on: the slots and the frame's bytes. -/
theorem SameFrame.afterSubBlocks {E p0 : Word} (h : SameFrame R S (s.frameStart E p0) (u.frameStart E p0))
    (hl : s.cfg.Layout) (hE : E.toNat + 0x488 ≤ s.extSize)
    (hA : Set.Ico s.cfg.slotA.toNat (s.cfg.slotA.toNat + 0x220) ⊆ R)
    (hB : Set.Ico s.cfg.slotB.toNat (s.cfg.slotB.toNat + 0x220) ⊆ R)
    (hS : Set.Ico E.toNat (E.toNat + 0x488) ⊆ S) {n : Nat} (hn : n ≤ 3) :
    SameFrame R S (s.afterSubBlocks E p0 n) (u.afterSubBlocks E p0 n) := by
  induction n with
  | zero => exact h
  | succ n ih =>
    have hcfg := afterSubBlocks_cfg s E p0 n
    have hrd := afterSubBlocks_extRd_toNat (p0 := p0) hE hn
    have hload : Set.Ico (s.afterSubBlocks E p0 n).extRd.toNat ((s.afterSubBlocks E p0 n).extRd.toNat + 0x180) ⊆ S :=
      subset_trans (Set.Ico_subset_Ico (by omega) (by omega)) hS
    exact (ih (by omega)).subBlock (hcfg.symm ▸ hl) (hcfg.symm ▸ afterSubBlocks_holdsSlots s E p0 n hl)
      (hcfg.symm ▸ hA) (hcfg.symm ▸ hB) hload (afterSubBlocks_store_inside hE hn)

end

/-- Settles O49: the two frames read the operands, the slots and the frame's bytes only, action by action. -/
theorem decodeOutputFromFrameAndSlots : Obligations.DecodeOutputFromFrameAndSlots := by
  intro s u hok hcfg ha0 ha1 hframe hslotA hslotB
  obtain ⟨hw, heven, hp, hE⟩ := id hok
  have hl := Config.layout_of_wellFormed hw
  have hoku : u.DecodeOk := by
    rw [State.DecodeOk, State.extSize, hcfg, ha0, ha1]
    exact hok
  have hws : Set.EqOn s.wsByte u.wsByte (Set.Ico s.cfg.slotA.toNat (s.cfg.slotA.toNat + 0x220) ∪
      Set.Ico s.cfg.slotB.toNat (s.cfg.slotB.toNat + 0x220)) := by
    rintro x (hx | hx)
    · exact (hslotA x hx.1 hx.2).symm
    · exact (hslotB x hx.1 hx.2).symm
  have hext : Set.EqOn s.extByte u.extByte (Set.Ico s.a0.toNat (s.a0.toNat + 0x488)) :=
    fun x hx => (hframe x hx.1 hx.2).symm
  have hstart := sameFrame_frameStart hcfg hl s.a0 s.a1 (Set.Ico_subset_Ico le_rfl (by omega)) hws hext
  have hend := hstart.afterSubBlocks hl hE Set.subset_union_left Set.subset_union_right subset_rfl le_rfl
  refine ⟨_, _, exec_decode_eq_afterSubBlocks hok, exec_decode_eq_afterSubBlocks hoku, fun x hlo hhi => ?_⟩
  rw [State.completed_extByte, State.frameDone_extByte, State.completed_extByte, State.frameDone_extByte, ha0, ha1]
  exact (hend.ext ⟨hlo, by omega⟩).symm

end Sys2Proof.Machine

/-! ## The fault (60_exceptions.md): precise when taken, sticky until reset -/

namespace Sys2Proof.Machine

/-! ### While a fault is recorded -/

/-- A word written to `CMD` while a fault is recorded is refused undecoded (rule R146). -/
theorem issue_of_faulted {s : State} (hf : s.faulted = true) (w : Word) :
    issue w s = .next { s with lastOk := false } :=
  if_pos hf

/-- A register write never reaches the fault record (10_state.md rules R24 to R26, R46). -/
theorem writeReg_keeps_fault (s : State) (r : HostReg) (d : Word) :
    (s.writeReg r d).faulted = s.faulted ∧ (s.writeReg r d).cause = s.cause ∧ (s.writeReg r d).info = s.info := by
  cases r <;> exact ⟨rfl, rfl, rfl⟩

/-- Of what a host access can do, only the reset input leaves the faulted state or replaces the record (rule R147): a
refused command writes `LAST_OK` alone, and no command is decoded or run. -/
theorem HostEffect.keeps_fault {a : HostAccess} {s t : State} (h : HostEffect a s t) (hf : s.faulted = true)
    (ha : a ≠ .reset) : t.faulted = true ∧ t.cause = s.cause ∧ t.info = s.info := by
  cases h with
  | ignored | refused | answered | platform | extWritten => exact ⟨hf, rfl, rfl⟩
  | illegal hn | command hn => simp [hf] at hn
  | written r d => simpa only [hf] using writeReg_keeps_fault s r d
  | reset h => exact absurd h ha

/-! ### The statements -/

/-- Settles O5: the issue of a faulted state refuses; register accesses do not look at the fault. -/
theorem faultedRefusesEveryCommand : Obligations.FaultedRefusesEveryCommand := by
  intro s rest hw hf
  refine ⟨fun w => ?_, fun off r d hr hc => step_write_reg hw rest hr hc d,
    fun off r hr => step_read_reg hw rest hr rfl⟩
  rw [step_write_cmd hw]
  exact issue_of_faulted (s := s.withHost rest) hf w

/-- Settles O52: a command that completes keeps `FAULTED` 0, so a faulting one has reported a violated check, with a
cause that check raises. -/
theorem faultsArePrecise : Obligations.FaultsArePrecise := by
  intro i s t hf he ht
  rcases exec_cases he with ⟨-, rfl⟩ | ⟨c, hc, -, rfl⟩
  · have keep := (commandEffect_keepsContext s i).faulted
    simp [keep, hf] at ht
  · rw [State.enterFault_of_not_faulted hf]
    exact ⟨rfl, commandChecks_cause i s c hc⟩

/-- Settles O53: by what the oldest pending access can do (`HostEffect`). -/
theorem faultStaysUntilReset : Obligations.FaultStaysUntilReset := by
  intro s t hf hhead hstep
  obtain ⟨-, ⟨-, rfl⟩ | ⟨a, rest, hhost, ha⟩⟩ := step_cases hstep
  · exact ⟨hf, rfl, rfl⟩
  · have hreset : a ≠ .reset := by
      rintro rfl
      exact hhead (by rw [hhost]; rfl)
    exact (hostAccess_effect ha).keeps_fault (s := s.withHost rest) hf hreset

end Sys2Proof.Machine

/-! ## Reset, idle, and the silent frame (70_reset_and_hazards.md rules R152, R154, R155, R163) -/

namespace Sys2Proof

/-- The output block with its spill lies apart from both slots (20_memory.md rule R60). -/
theorem Config.output_slots_apart {c : Config} (h : c.wellFormed = true) :
    (c.outOff.toNat + 0x182 ≤ c.slotA.toNat ∨ c.slotA.toNat + 0x220 ≤ c.outOff.toNat) ∧
    (c.outOff.toNat + 0x182 ≤ c.slotB.toNat ∨ c.slotB.toNat + 0x220 ≤ c.outOff.toNat) := by
  obtain ⟨-, -, hapart, -⟩ := (Config.wellFormed_iff c).mp h
  simp only [Config.regionsApart_iff, Config.regions, List.forall_mem_cons, List.pairwise_cons] at hapart
  omega

end Sys2Proof

namespace Sys2Proof.Machine

/-! ### The gain 0 (45_gain.md rules R121, R122) -/

/-- The product by 0 is 0, which is not clamped (40_primitives.md rule R80). -/
theorem scaledMultiply_zero (sample : Half) : scaledMultiply sample 0 = 0 := by
  have hzero : (0 : Half).toInt = 0 := rfl
  apply BitVec.eq_of_toInt_eq
  rw [scaledMultiply_toInt, hzero, Int.mul_zero]
  rfl

/-- A gain of 0 clears the bytes of its samples. -/
theorem wsByteAt_applyGain_zero (e : Nat) (ws : Memory) {o n x : Nat} (h : o + 2 * n ≤ 4096) (hlo : o ≤ x)
    (hhi : x < o + 2 * n) : wsByteAt e (applyGain e ws o n 0) x = 0 := by
  have hsample : sampleAt e (applyGain e ws o n 0) (o + 2 * ((x - o) / 2)) = 0 := by
    rw [sampleAt_applyGain e ws o n 0 h (by omega), scaledMultiply_zero]
  obtain ⟨hhigh, hlow⟩ := (sampleAt_eq_zero_iff _ _ _).mp hsample
  rcases Nat.mod_two_eq_zero_or_one (x - o) with hx | hx
  · rwa [show o + 2 * ((x - o) / 2) = x by omega] at hhigh
  · rwa [show o + 2 * ((x - o) / 2) + 1 = x by omega] at hlow

/-- Either phase selects 0 from two gains of 0. -/
theorem gainSelect_self (c : Config) (p : Nat) (g : Half) : gainSelect c p g g = g :=
  ite_self g

/-- With both gains 0 the group's 33 outputs are 0, whatever the window put there. -/
theorem wsByteAt_groupWorkspace_zero_gains (c : Config) (e : Nat) (ws : Memory) {I O x : Nat} (p : BitVec 4)
    (N P : Half) (hO : O + 0x42 ≤ 4096) (hlo : O ≤ x) (hhi : x < O + 0x42) :
    wsByteAt e (groupWorkspace c e ws I O p N P 0 0) x = 0 := by
  unfold groupWorkspace
  dsimp only
  rw [gainSelect_self]
  by_cases hx : x < O + 0x22
  · rw [wsByteAt_applyGain_of_outside _ _ _ _ _ _ (.inl hx)]
    exact wsByteAt_applyGain_zero e _ (by omega) hlo hx
  · exact wsByteAt_applyGain_zero e _ (by omega) (by omega) (by omega)

/-! ### The output of a sub-block and of a frame -/

section
variable {s : State}

/-- A turn with both gains 0 clears its outputs. -/
theorem wsByte_groupTurn_zero_gains (hg0 : s.g0 = 0) (hg1 : s.g1 = 0) (hO : s.outCur.toNat + 0x42 ≤ 4096) {x : Nat}
    (hlo : s.outCur.toNat ≤ x) (hhi : x < s.outCur.toNat + 0x42) : s.groupTurn.wsByte x = 0 := by
  rw [State.wsByte, State.groupTurn_epoch, State.groupTurn_ws, groupBody_ws, hg0, hg1]
  exact wsByteAt_groupWorkspace_zero_gains _ _ _ _ _ _ hO hlo hhi

/-- Turns with both gains 0 clear one output after another: a turn clears its own outputs and leaves what lies below its
cursor, outside the slots. -/
theorem wsByte_groupTurns_zero_gains {A B : Half} (hs : s.HoldsSlots A B) (hg0 : s.g0 = 0) (hg1 : s.g1 = 0) {n : Nat}
    (hO : s.outCur.toNat + 0x40 * n + 2 ≤ 4096) {x : Nat} (hA : x < A.toNat ∨ A.toNat + 0x220 ≤ x)
    (hB : x < B.toNat ∨ B.toNat + 0x220 ≤ x) (hlo : s.outCur.toNat ≤ x) (hhi : x < s.outCur.toNat + 0x40 * n) :
    (State.groupTurns n s).wsByte x = 0 := by
  induction n with
  | zero => omega
  | succ n ih =>
    have hcursor : (State.groupTurns n s).outCur.toNat = s.outCur.toNat + 0x40 * n := by
      rw [groupTurns_outCur]
      bv_omega
    rw [groupTurns_succ]
    by_cases hx : x < s.outCur.toNat + 0x40 * n
    · rw [wsByte_groupTurn_of_outside (groupTurns_holdsSlots n hs) hA hB (.inl (hcursor ▸ hx))]
      exact ih (by omega) hx
    · exact wsByte_groupTurn_zero_gains ((State.groupTurns_g0 n s).trans hg0) ((State.groupTurns_g1 n s).trans hg1)
        (by omega) (by omega) (by omega)

/-- A sub-block with both gains 0 leaves an output block of zeros (rule R155). -/
theorem wsByte_subBlock_zero_gains (hw : s.cfg.wellFormed = true) (hs : s.HoldsSlots s.cfg.slotA s.cfg.slotB)
    (hg0 : s.g0 = 0) (hg1 : s.g1 = 0) {k : Nat} (hk : k < 0x180) : s.subBlock.wsByte (s.cfg.outOff.toNat + k) = 0 := by
  obtain ⟨hA, hB⟩ := Config.output_slots_apart hw
  have hfit := (Config.layout_of_wellFormed hw).output_inside
  have hcursor := congrArg BitVec.toNat (State.subBlockLoad_outCur s)
  have hturns := wsByte_groupTurns_zero_gains (s := s.subBlockLoad) (n := 6) (x := s.cfg.outOff.toNat + k) hs hg0 hg1
    (by omega) (by omega) (by omega) (by omega) (by omega)
  rw [State.wsByte, State.groupTurns_epoch] at hturns
  rw [State.wsByte, subBlock_ws, subBlock_epoch]
  exact hturns

end

section
variable (s : State) (E p0 : Word)

/-- What each sub-block keeps, all of them keep. -/
theorem afterSubBlocks_keeps_field {α : Type} {f : State → α} (hf : ∀ t, f t.subBlock = f t) (n : Nat) :
    f (s.afterSubBlocks E p0 n) = f (s.frameStart E p0) := by
  induction n with
  | zero => rfl
  | succ n ih => rw [State.afterSubBlocks, hf, ih]

variable {s E p0}

/-- The first sub-blocks of a frame whose gains are 0 store zeros. -/
theorem extByte_afterSubBlocks_zero_gains (hw : s.cfg.wellFormed = true) (hE : E.toNat + 0x488 ≤ s.extSize)
    (hg0 : (s.frameStart E p0).g0 = 0) (hg1 : (s.frameStart E p0).g1 = 0) {n : Nat} (hn : n ≤ 3) {x : Nat}
    (hlo : E.toNat ≤ x) (hhi : x < E.toNat + 0x180 * n) : (s.afterSubBlocks E p0 n).extByte x = 0 := by
  induction n with
  | zero => omega
  | succ n ih =>
    have hcfg := afterSubBlocks_cfg s E p0 n
    have hslots := afterSubBlocks_holdsSlots s E p0 n (Config.layout_of_wellFormed hw)
    have hg0n := (afterSubBlocks_keeps_field s E p0 subBlock_g0 n).trans hg0
    have hg1n := (afterSubBlocks_keeps_field s E p0 subBlock_g1 n).trans hg1
    have hstore := afterSubBlocks_extWr_toNat (p0 := p0) hE hn
    rw [State.afterSubBlocks, extByte_subBlock (afterSubBlocks_store_inside hE hn)]
    split_ifs with hx
    · exact wsByte_subBlock_zero_gains (hcfg.symm ▸ hw) (hcfg.symm ▸ hslots) hg0n hg1n (by omega)
    · exact ih (by omega) (by omega)

end

/-- HeaderRead takes the gains from the frame's bytes 0, 1, 4 and 5 (46_frame_driver.md rule R128). -/
theorem frameStart_gains (s : State) (E p0 : Word) (hheader : s.cfg.hdrOff.toNat + 8 ≤ 4096) :
    (s.frameStart E p0).g0 = s.extByte E.toNat ++ s.extByte (E.toNat + 1) ∧
    (s.frameStart E p0).g1 = s.extByte (E.toNat + 4) ++ s.extByte (E.toNat + 5) :=
  ⟨sampleAt_copyIn s.epoch s.ws s.ext hheader (k := 0) (by omega),
    sampleAt_copyIn s.epoch s.ws s.ext hheader (k := 4) (by omega)⟩

/-! ### Steps with nothing pending, and the reset input -/

/-- With no access pending a step holds the state (rule R163). -/
theorem step_of_host_nil {s : State} (hw : s.cfg.wellFormed = true) (hh : s.host = []) : step s = .next s := by
  simp [step, hw, hostTurn, hh]

/-- The reset input is taken whatever the state (rules R147, R154). -/
theorem step_reset {s : State} (hw : s.cfg.wellFormed = true) (rest : List HostAccess) :
    step (s.pending .reset rest) = .next (State.afterReset s.cfg (s.epoch + 1) s.ext rest s.rdata s.draws) :=
  step_pending hw .reset rest

/-! ### The statements -/

/-- Settles O48: whatever the transform and the window leave, a gain of 0 clears every output sample before its
sub-block is stored. -/
theorem decodeOfZeroGainsIsSilent : Obligations.DecodeOfZeroGainsIsSilent := by
  intro s hok h0 h1 h4 h5
  obtain ⟨hw, -, -, hE⟩ := id hok
  obtain ⟨hg0, hg1⟩ := frameStart_gains s s.a0 s.a1 (Config.layout_of_wellFormed hw).header_inside
  rw [h0, h1] at hg0
  rw [h4, h5] at hg1
  refine ⟨_, exec_decode_eq_afterSubBlocks hok, fun x hlo hhi => ?_⟩
  rw [State.completed_extByte, State.frameDone_extByte]
  exact extByte_afterSubBlocks_zero_gains hw hE hg0 hg1 le_rfl hlo hhi

/-- Settles O11: by the step with nothing pending. -/
theorem idleHoldsAllState : Obligations.IdleHoldsAllState :=
  fun _ hw hh => step_of_host_nil hw hh

/-- Settles O15: the reset input gives the state after reset (10_state.md rule R45), around it the external memory, the
configuration and the accesses still pending. -/
theorem resetInputClearsState : Obligations.ResetInputClearsState :=
  fun _ rest hw => ⟨_, step_reset hw rest, rfl, rfl, rfl, rfl, rfl, rfl, rfl, rfl, rfl, rfl, rfl, rfl, rfl, rfl, rfl,
    rfl, rfl, rfl, rfl, rfl⟩

end Sys2Proof.Machine
